-- ==== Sys2Proof/Word.lean ====
section
/-! DEFINITION. Bytes and words as the wire carries them, and the fixed-size collections of the part
(four channels, four supply groups, eight analyzers, eight profiles). -/

namespace Sys2Proof

/-- One byte of a frame, of an analyzer message or of the configuration image. -/
abbrev Byte := BitVec 8

/-- A 2-byte field. -/
abbrev Half := BitVec 16

/-- A 4-byte field. -/
abbrev Word := BitVec 32

/-- Four like things: the channels 0-3, the supply groups 0-3. -/
structure Four (α : Type) where
  c0 : α
  c1 : α
  c2 : α
  c3 : α
deriving DecidableEq, Repr

/-- The entry with a given number. -/
def Four.get {α : Type} (v : Four α) (i : Fin 4) : α :=
  match i with
  | 0 => v.c0
  | 1 => v.c1
  | 2 => v.c2
  | 3 => v.c3

/-- The collection with one entry replaced. -/
def Four.set {α : Type} (v : Four α) (i : Fin 4) (a : α) : Four α :=
  match i with
  | 0 => { v with c0 := a }
  | 1 => { v with c1 := a }
  | 2 => { v with c2 := a }
  | 3 => { v with c3 := a }

/-- Every entry the same. -/
def Four.all {α : Type} (a : α) : Four α := ⟨a, a, a, a⟩

/-- The entries computed from their numbers. -/
def Four.ofFn {α : Type} (f : Fin 4 → α) : Four α := ⟨f 0, f 1, f 2, f 3⟩

/-- The entries in ascending order. -/
def Four.toList {α : Type} (v : Four α) : List α := [v.c0, v.c1, v.c2, v.c3]

/-- Eight like things: the analyzers 0-7, the profiles 0-7. -/
structure Eight (α : Type) where
  c0 : α
  c1 : α
  c2 : α
  c3 : α
  c4 : α
  c5 : α
  c6 : α
  c7 : α
deriving DecidableEq, Repr

/-- The entry with a given number. -/
def Eight.get {α : Type} (v : Eight α) (i : Fin 8) : α :=
  match i with
  | 0 => v.c0
  | 1 => v.c1
  | 2 => v.c2
  | 3 => v.c3
  | 4 => v.c4
  | 5 => v.c5
  | 6 => v.c6
  | 7 => v.c7

/-- The collection with one entry replaced. -/
def Eight.set {α : Type} (v : Eight α) (i : Fin 8) (a : α) : Eight α :=
  match i with
  | 0 => { v with c0 := a }
  | 1 => { v with c1 := a }
  | 2 => { v with c2 := a }
  | 3 => { v with c3 := a }
  | 4 => { v with c4 := a }
  | 5 => { v with c5 := a }
  | 6 => { v with c6 := a }
  | 7 => { v with c7 := a }

/-- Every entry the same. -/
def Eight.all {α : Type} (a : α) : Eight α := ⟨a, a, a, a, a, a, a, a⟩

/-- The entries computed from their numbers. -/
def Eight.ofFn {α : Type} (f : Fin 8 → α) : Eight α :=
  ⟨f 0, f 1, f 2, f 3, f 4, f 5, f 6, f 7⟩

/-- The entries in ascending order. -/
def Eight.toList {α : Type} (v : Eight α) : List α :=
  [v.c0, v.c1, v.c2, v.c3, v.c4, v.c5, v.c6, v.c7]

end Sys2Proof
end

