-- ==== Sys2Proof/Syntax.lean ====
section
/-! DEFINITION. The commands of the part: one constructor of `Instr` for each row of the table of
operations and events, with the operands the manual gives the event. -/

namespace Sys2Proof

/-- The three residual conditions, which are the ones with an alert timer (R110). -/
inductive ResidualCondition where
  | low
  | high
  | highHigh
deriving DecidableEq, Repr

/-- How a read transaction on the configuration bus ended (R165): with the bytes of the part of the
image it read, or without an acknowledge. -/
inductive ReadResult where
  | completed (data : List Byte)
  | failed
deriving DecidableEq, Repr

/-- The seven bytes of an analyzer sample message (12.5); the value field is bytes 4 and 5. -/
structure SampleMessage where
  start : Byte
  analyzer : Byte
  measurand : Byte
  quality : Byte
  value : Half
  check : Byte
deriving DecidableEq, Repr

/-- The commands. A received frame is given by its source, its destination and the fields of its
payload as they stand on the line (12.2); its CRC and length have been found good (R162), and a frame
that fails those checks is the command `linkReject`. -/
inductive Instr where
  | pinReset
  | resetNRise
  | readTransaction (r : ReadResult)
  | transactionTimeout
  | retryWait
  | restartBegins
  | flowPulse
  | flowSample
  | idleTimerExpiry
  | lineChange (p0 p1 p2 : Bool)
  | settleTimerExpiry
  | doseUpdate (ch : Fin 4)
  | analyzerMessage (m : SampleMessage)
  | messageGap
  | freshnessTimerExpiry (a : Fin 8)
  | alertTimerExpiry (ch : Fin 4) (which : ResidualCondition)
  | runOnTimerExpiry (ch : Fin 4)
  | quietTimerExpiry (ch : Fin 4)
  | strokeIntervalExpiry (ch : Fin 4)
  | confirm (ch : Fin 4)
  | deadlineExpiry (ch : Fin 4)
  | graceDeadlineExpiry (ch : Fin 4)
  | announceExpiry
  | demandFrame (src dst weight state flags : Byte) (demand : Four Word)
  | supplyFrame (src dst group : Byte) (capacity : Word)
  | conflictFrame
  | otherFrame (src kind dst : Byte)
  | linkReject (bytes : List Byte)
  | target (src dst tag ch flags : Byte) (value : Half)
  | profile (src dst tag ch flags index : Byte)
  | ceiling (src dst tag ch : Byte) (value : Half)
  | freeze (src dst tag ch : Byte)
  | commit (src dst : Byte)
  | clearFeeder (src dst tag ch : Byte)
  | release (src dst tag ch : Byte)
  | restart (src dst tag : Byte)
  | flush (src dst : Byte)
  | query (src dst tag subject p1 p2 : Byte)
  | transmitAttempt
  | frameLost
  | frameCollided
  | frameCompleted
  | reportTimerExpiry
  | packingTest
  | receivedByteOnAnz (b : Byte)
deriving DecidableEq, Repr

end Sys2Proof
end

