-- ==== Sys2Proof/Decode.lean ====
section
/-! DEFINITION. The command that a word of spec/opcode_table.json spells. The table gives no row any bits: its
rows are events and requests, named and not encoded. The bytes of frames and messages are read in
Machine/Receive.lean and Machine/Operands.lean. -/

namespace Sys2Proof

/-- No row of the table gives bits, so no word spells a command. -/
def decodeTableWord (nbits w : Nat) : Option Instr :=
  let _ := (nbits, w)
  none

end Sys2Proof
end

