-- ==== Sys2Proof/Config.lean ====
section
/-! DEFINITION. What is fixed for a service: the fixed figures of the part, the configured values of the
configuration image (12.6), and the one free value of the model. -/

namespace Sys2Proof.Machine

/-- DESIGN CHOICE (assumption 2). The free choices of the model: the n-th time the manual leaves the
order of two things open, this value picks one. It has no body, so nothing can be proved of it. -/
opaque Config.freeChoice : Nat → Nat

/-- Kind of a channel (12.1.1: NONE 0, COAGULANT 1, CHLORINE 2). -/
inductive Kind where
  | none
  | coagulant
  | chlorine
deriving DecidableEq, Repr

/-- One profile of a channel (R15). The fields of the other kind are 0: they are not read. -/
structure Profile where
  b : Nat
  k : Nat
  s : Nat
  rt : Nat
  e0 : Nat
deriving DecidableEq, Repr

/-- A channel block of the image (12.6). Fields that the kind does not use are 0: they are not read
(R166). `volume` is the lead volume of a coagulant channel and the lag volume of a chlorine one. -/
structure ChannelConfig where
  kind : Kind
  group : Fin 4
  analyzer : Option (Fin 8)
  vs : Nat
  sp : Nat
  tmin : Nat
  confirmWindow : Nat
  missLimit : Nat
  nativeCeiling : Nat
  volume : Nat
  historyStep : Nat
  lowLimit : Nat
  lowRecovery : Nat
  highLimit : Nat
  highRecovery : Nat
  hhLimit : Nat
  tL : Nat
  tH : Nat
  tHH : Nat
  runOnTime : Nat
  feedThreshold : Nat
  shareThreshold : Nat
  samplesThreshold : Nat
  profiles : Eight Profile
deriving DecidableEq, Repr

/-- A channel is configured when its kind is not NONE. -/
def ChannelConfig.configured (c : ChannelConfig) : Bool := c.kind != .none

/-- A profile with every field 0. -/
def Profile.zero : Profile := ⟨0, 0, 0, 0, 0⟩

/-- The channel block of a channel of kind NONE: only the kind is read (R166). -/
def ChannelConfig.unconfigured : ChannelConfig where
  kind := .none
  group := 0
  analyzer := none
  vs := 0
  sp := 0
  tmin := 0
  confirmWindow := 0
  missLimit := 0
  nativeCeiling := 0
  volume := 0
  historyStep := 0
  lowLimit := 0
  lowRecovery := 0
  highLimit := 0
  highRecovery := 0
  hhLimit := 0
  tL := 0
  tH := 0
  tHH := 0
  runOnTime := 0
  feedThreshold := 0
  shareThreshold := 0
  samplesThreshold := 0
  profiles := Eight.all Profile.zero

/-- A group block of the image: maximum and fallback capacity, in mg/s (R71). -/
structure GroupConfig where
  maxCapacity : Nat
  fallback : Nat
deriving DecidableEq, Repr

/-- The station block of the image (12.6). Times are in seconds. -/
structure StationConfig where
  number : Nat
  weight : Nat
  reserveShare : Nat
  announcePeriod : Nat
  silenceLimit : Nat
  litresPerPulse : Nat
  idleTime : Nat
  settleTime : Nat
  reportInterval : Nat
  packingCount : Nat
  analyzerTimeout : Nat
  linkThreshold : Nat
  announceThreshold : Nat
deriving DecidableEq, Repr

/-- The configured values of a valid image. -/
structure Image where
  station : StationConfig
  groups : Four GroupConfig
  channels : Four ChannelConfig
deriving DecidableEq, Repr

/-- The configuration of one channel. -/
def Image.channel (im : Image) (ch : Fin 4) : ChannelConfig := im.channels.get ch

end Sys2Proof.Machine
end

