-- ==== Sys2Proof/Machine/State.lean ====
section
/-! DEFINITION. The state of the FN-420: every piece of state the manual gives its blocks, as plain data,
with the queue of waiting commands, and the state right after pin reset. -/

namespace Sys2Proof.Machine

/-- The part stops at nothing: a bad image takes it to the state HALTED (R167), a dead feeder to FAULTED,
an overdose to LOCKED. There is no fault, so this type has no constructor. -/
inductive Fault where
deriving DecidableEq, Repr

/-- Why a command has no meaning. -/
inductive Refusal where
  /-- The command of that mnemonic is not modelled. Raised by no arm: every command has its meaning.
  Stopping so would be safe. -/
  | notModelled (mnemonic : String)
deriving DecidableEq, Repr

/-- A timer: stopped (`none`), or running with the milliseconds that remain. -/
abbrev Timer := Option Nat

/-- The six states of the station (4.1). -/
inductive StationState where
  | load
  | halted
  | join
  | run
  | isolated
  | silent
deriving DecidableEq, Repr

/-- The states of a channel (7.1). -/
inductive ChannelState where
  | off
  | dosing
  | standby
  | held
  | faulted
  | locked
deriving DecidableEq, Repr

/-- The states of a condition (R110). -/
inductive Cond where
  | clear
  | alert
  | active
deriving DecidableEq, Repr

/-! ### Configuration Loader (Chapter 11) -/

/-- The parts of the image, each read by one transaction (R165). -/
inductive Part where
  | header
  | station
  | group (g : Fin 4)
  | channel (ch : Fin 4)
  | crc
deriving DecidableEq, Repr

/-- What the Loader is doing. -/
inductive LoaderPhase where
  /-- No read in hand: RESET_N low, in service, or HALTED. -/
  | idle
  /-- A transaction is in progress. -/
  | reading
  /-- The 5 ms wait after a failed transaction. -/
  | waiting
deriving DecidableEq, Repr

/-- The Configuration Loader (R165): the transaction in hand, how many of its attempts have failed, its
25 ms limit or 5 ms wait, and the bytes read so far. -/
structure Loader where
  phase : LoaderPhase
  part : Part
  failures : Nat
  timer : Timer
  bytes : List Byte
deriving DecidableEq, Repr

/-! ### Flow Unit (Chapter 1) -/

/-- The Flow Unit (1.1). -/
structure FlowUnit where
  pulseCount : Nat
  ring : Four Nat
  wpos : Fin 4
  q : Nat
  v : Nat
  sampleTimer : Timer
  idleTimer : Timer
  idle : Bool
deriving DecidableEq, Repr

/-! ### Profile selector (2.3) -/

/-- The selector: its index, the candidate while settling (`none` when idle), the settle timer (R16). -/
structure Selector where
  index : Fin 8
  candidate : Option (Fin 8)
  timer : Timer
deriving DecidableEq, Repr

/-! ### Sample Intake (3.1) -/

/-- What an analyzer measures. -/
inductive Measurand where
  | residual
  | turbidity
deriving DecidableEq, Repr

/-- Quality of an accepted sample (R36). -/
inductive Quality where
  | good
  | suspect
deriving DecidableEq, Repr

/-- A last value: value, measurand, quality (R34). -/
structure Reading where
  value : Nat
  measurand : Measurand
  quality : Quality
deriving DecidableEq, Repr

/-- An analyzer record (R34). -/
structure AnalyzerRecord where
  value : Option Reading
  fresh : Bool
  timer : Timer
deriving DecidableEq, Repr

/-- The Sample Intake: its eight records, and the bytes of the open message (empty when none is open)
with its 10 ms gap (R172). -/
structure SampleIntake where
  records : Eight AnalyzerRecord
  buffer : List Byte
  gapTimer : Timer
deriving DecidableEq, Repr

/-! ### Channels: Dose Engine, volume queues, Feeder Drive, Channel Supervisor, interval figures -/

/-- A pending profile item (2.4.3). -/
inductive ProfileItem where
  | index (i : Fin 8)
  | release
deriving DecidableEq, Repr

/-- A pending target item (2.4.3). -/
inductive TargetItem where
  | value (v : Nat)
  | revert
deriving DecidableEq, Repr

/-- An entry of the turbidity pipeline (R41). -/
structure PipeEntry where
  due : Nat
  turbidity : Nat
deriving DecidableEq, Repr

/-- An entry of the dose history (R47). -/
structure HistEntry where
  mark : Nat
  dose : Nat
  merged : Bool
deriving DecidableEq, Repr

/-- The Dose Engine of a channel with its volume queue (2.1, R41, R47). `tdp` is `none` in the default
condition; `mCap` is the capped demand M′. -/
structure DoseEngine where
  profileOverride : Option (Fin 8)
  activeIndex : Fin 8
  targetOverride : Option Nat
  pendingProfile : Option ProfileItem
  pendingTarget : Option TargetItem
  cw : Nat
  freeze : Bool
  eest : Nat
  tdp : Option Nat
  pipeline : List PipeEntry
  history : List HistEntry
  deff : Nat
  m : Nat
  mCap : Nat
  gch : Nat
  feedLimit : Bool
  timer : Timer
deriving DecidableEq, Repr

/-- State of an entry of the outstanding-stroke list (R99). -/
inductive StrokeState where
  | pending
  | missed
deriving DecidableEq, Repr

/-- An entry of the outstanding-stroke list: its state and the milliseconds left to its deadline (its
grace deadline when MISSED), see R99. -/
structure Stroke where
  state : StrokeState
  deadline : Nat
deriving DecidableEq, Repr

/-- The Feeder Drive of a channel (R92), its STK pulses (model's own count) and its INH output. -/
structure FeederDrive where
  ac : Nat
  timer : Timer
  strokes : List Stroke
  misses : Nat
  stk : Nat
  inh : Bool
deriving DecidableEq, Repr

/-- Cause of a lockout (R121). -/
inductive LockCause where
  | highHigh
  | runOn
deriving DecidableEq, Repr

/-- The lockout record of a channel (R121). `estimate` is Eest or Tdp. -/
structure Lockout where
  cause : LockCause
  v : Nat
  profile : Fin 8
  deff : Nat
  gch : Nat
  estimate : Nat
  lastResidual : Option Nat
  outstanding : Nat
  additionalHighHigh : Bool
  additionalRunOn : Bool
  released : Bool
deriving DecidableEq, Repr

/-- The Channel Supervisor of a channel (R110). -/
structure Supervisor where
  low : Cond
  high : Cond
  highHigh : Cond
  runOn : Cond
  feederFault : Cond
  stale : Cond
  tL : Timer
  tH : Timer
  tHH : Timer
  runOnTimer : Timer
  quietTimer : Timer
  lastResidual : Option Nat
  lockout : Option Lockout
deriving DecidableEq, Repr

/-- The figures a channel gathers over the report interval (R146, R92, R55). -/
structure Interval where
  volume : Nat
  granted : Nat
  mSum : Nat
  gSum : Nat
  shortfall : Nat
  issued : Nat
  confirmed : Nat
  missed : Nat
  late : Nat
  unexpected : Nat
  confirmedMass : Nat
  creditDropped : Nat
  received : Nat
  good : Nat
  unusable : Nat
  minResidual : Option Nat
  maxResidual : Option Nat
  feedLimitSeen : Bool
  condActive : Bool
deriving DecidableEq, Repr

/-- One channel. -/
structure Channel where
  state : ChannelState
  dose : DoseEngine
  feeder : FeederDrive
  sup : Supervisor
  iv : Interval
deriving DecidableEq, Repr

/-! ### Peer View (Chapter 4) -/

/-- Reported state of a peer (R69). -/
inductive ReportedState where
  | unknown
  | join
  | run
  | isolated
deriving DecidableEq, Repr

/-- An entry of the peer table (R69). -/
structure PeerEntry where
  number : Nat
  weight : Nat
  state : ReportedState
  demand : Four Nat
  healthWarning : Bool
  age : Nat
deriving DecidableEq, Repr

/-- An occupied source slot of the capacity table (R71). -/
structure CapacitySlot where
  source : Nat
  capacity : Nat
  age : Nat
deriving DecidableEq, Repr

/-- The two source slots of a supply group (R71). -/
structure GroupSlots where
  slot0 : Option CapacitySlot
  slot1 : Option CapacitySlot
deriving DecidableEq, Repr

/-- The Peer View, but for the station state (R57). `silencedAtExpiry` is the model's own: the conflict frame that
brought SILENT arrived together with an announce expiry that is still to be taken (R66; assumption 24). -/
structure PeerView where
  joinCount : Nat
  silence : Nat
  heard : Bool
  conflictClear : Nat
  conflictSeen : Bool
  silencedAtExpiry : Bool
  timer : Timer
  table : List PeerEntry
  capacity : Four GroupSlots
deriving DecidableEq, Repr

/-- A grant record of the Share Engine (R75). -/
structure GrantRecord where
  dOwn : Nat
  gStation : Nat
deriving DecidableEq, Repr

/-! ### Records and health (Chapter 9) -/

/-- A dose record (R147). -/
structure DoseRecord where
  seq : Nat
  channel : Fin 4
  state : ChannelState
  volume : Nat
  granted : Nat
  confirmedMass : Nat
  shortfall : Nat
  meanDose : Nat
  minResidual : Option Nat
  maxResidual : Option Nat
  feedLimitSeen : Bool
  unusableSeen : Bool
  condActive : Bool
deriving DecidableEq, Repr

/-- An attribute of the health table (R153). -/
structure Attr where
  value : Nat
  worst : Nat
  raw : Nat
  threshold : Nat
deriving DecidableEq, Repr

/-- The three attributes of a channel (R153). -/
structure ChannelHealth where
  feed : Attr
  share : Attr
  samples : Attr
deriving DecidableEq, Repr

/-- The health table (R153). -/
structure HealthTable where
  channels : Four ChannelHealth
  link : Attr
  announce : Attr
deriving DecidableEq, Repr

/-- The Record Builder (R145). -/
structure RecordBuilder where
  timer : Timer
  queue : List DoseRecord
  seq : Nat
  accepted : Nat
  rejected : Nat
  built : Nat
  sent : Nat
  coalesced : Nat
  health : HealthTable
  warning : Bool
deriving DecidableEq, Repr

/-! ### Frames the part builds (Chapter 12) -/

/-- A DEMAND the station announces (R67); the alarm-overflow flag is written at the attempt (R161). -/
structure Demand where
  weight : Nat
  state : StationState
  healthWarning : Bool
  demand : Four Nat
deriving DecidableEq, Repr

/-- Cause of a CHANNEL ALARM (R129, 12.3). -/
inductive AlarmCause where
  | residualSample
  | tLExpiry
  | tHExpiry
  | tHHExpiry
  | runOnEvent
  | feederFaultEvent
  | analyzerStale
  | analyzerFresh
  | clearFeeder
  | release
deriving DecidableEq, Repr

/-- An ALARM (R129, 12.3). -/
inductive Alarm where
  | channel (ch : Fin 4) (cause : AlarmCause) (residual : Option Nat) (before after : ChannelState)
      (low high highHigh runOn feederFault stale : Cond)
  | isolationBegun
  | isolationEnded
  | addressConflict
deriving DecidableEq, Repr

/-- Result codes (R134). -/
inductive ResultCode where
  | accepted
  | clamped
  | refusedState
  | refusedFrozen
  | refusedValue
  | refusedChannel
  | refusedPresent
deriving DecidableEq, Repr

/-- The two views of a CHANNEL answer (R151). -/
inductive View where
  | active
  | pending
deriving DecidableEq, Repr

/-- Contents of a CHANNEL answer (R151). -/
structure ChannelReport where
  view : View
  kind : Kind
  group : Fin 4
  state : ChannelState
  low : Cond
  high : Cond
  highHigh : Cond
  runOn : Cond
  feederFault : Cond
  stale : Cond
  profile : Fin 8
  sourceOverride : Bool
  profileFromSlot : Bool
  targetFromSlot : Bool
  freeze : Bool
  feedLimit : Bool
  base : Nat
  target : Option Nat
  cw : Nat
  deff : Nat
  m : Nat
  mCap : Nat
  gch : Nat
  estimate : Nat
  analyzer : Option Reading
  ac : Nat
  outstanding : Nat
  misses : Nat
  issued : Nat
  confirmed : Nat
  missed : Nat
  late : Nat
  unexpected : Nat
deriving DecidableEq, Repr

/-- One group of a STATION answer: C, d_own, G_station (R152). -/
structure GroupReport where
  capacity : Nat
  dOwn : Nat
  gStation : Nat
deriving DecidableEq, Repr

/-- What an ANSWER carries after its three opening bytes (12.4). -/
inductive AnswerContent where
  /-- Nothing: FREEZE, CLEAR FEEDER, RELEASE, RESTART, and a refused QUERY. -/
  | plain
  /-- The 2-byte value of TARGET, PROFILE and CEILING answers (R134); `none` is 0xFFFF. -/
  | value (v : Option Nat)
  | channel (r : ChannelReport)
  | station (state : StationState) (silence : Nat) (warning : Bool) (groups : Four GroupReport)
  | peers (count : Nat) (entries : List PeerEntry)
  | lockout (r : Option Lockout)
  | health (h : HealthTable) (warning : Bool)
deriving DecidableEq, Repr

/-- An ANSWER (R134, 12.4): `kind` is the kind code of the request answered. -/
structure Answer where
  dst : Byte
  tag : Byte
  kind : Nat
  result : ResultCode
  channel : Byte
  content : AnswerContent
deriving DecidableEq, Repr

/-- The frames the transmit queue holds (R156). -/
inductive Body where
  | alarm (a : Alarm)
  | answer (a : Answer)
  | records (rs : List DoseRecord)
deriving DecidableEq, Repr

/-! ### Link Controller (Chapter 10) -/

/-- An occupied entry of the transmit queue (R156). Its age is its place in the list. `awaited` marks an
ANSWER that a restart awaits (R143). -/
structure Entry where
  body : Body
  awaited : Bool
  collisions : Nat
  inAttempt : Bool
deriving DecidableEq, Repr

/-- A DEMAND in the announce slot or on the line, with its collision count (R156). -/
structure Announcement where
  demand : Demand
  collisions : Nat
deriving DecidableEq, Repr

/-- The transmitter (R156): idle, driving the queue entry that is IN ATTEMPT, or driving a DEMAND; with
the overflow bit written into the frame (R161) and the bytes of the frame. -/
inductive Transmitter where
  | idle
  | entry (overflow : Bool) (wire : List Byte)
  | demand (a : Announcement) (overflow : Bool) (wire : List Byte)
deriving DecidableEq, Repr

/-- What the part knows of the share link (R157, R158, R162; assumption 15). -/
inductive Line where
  /-- No station is known to have driven it since it was last idle. -/
  | idle
  /-- Other stations have driven it since it was last idle. -/
  | driven
  /-- The part drives it, or an attempt of its own on it has completed or collided: until the line is next idle
  the receiver takes nothing that is on it. -/
  | own
deriving DecidableEq, Repr

/-- The Link Controller (R156). `awaitedLeft` is the model's own: an ANSWER that a restart awaits has left the queue
in the event in progress (assumption 3). -/
structure Link where
  queue : List Entry
  slot : Option Announcement
  tx : Transmitter
  overflowDemand : Bool
  overflowAlarm : Bool
  line : Line
  awaitedLeft : Bool
deriving DecidableEq, Repr

/-! ### The station -/

/-- The state of the part, with the queue of commands that wait, first in, first out. -/
structure State where
  pending : List Instr
  resetN : Bool
  psel : Bool × Bool × Bool
  stn : StationState
  config : Option Image
  loader : Loader
  flow : FlowUnit
  selector : Selector
  intake : SampleIntake
  channels : Four Channel
  peer : PeerView
  share : Four GrantRecord
  recs : RecordBuilder
  link : Link
  restartPending : Bool
  faultOut : Bool
  freeCount : Nat
deriving DecidableEq, Repr

/-! ### Values after pin reset -/

/-- The Loader with no read in hand. -/
def Loader.held : Loader := ⟨.idle, .header, 0, none, []⟩

/-- The held condition of the Flow Unit (R1). -/
def FlowUnit.held : FlowUnit := ⟨0, Four.all 0, 0, 0, 0, none, none, false⟩

/-- The selector outside service: no settling (R22). DESIGN CHOICE (assumption 5): index 0. -/
def Selector.held : Selector := ⟨0, none, none⟩

/-- An analyzer record in the held condition (R34). -/
def AnalyzerRecord.held : AnalyzerRecord := ⟨none, true, none⟩

/-- The held condition of the Sample Intake (R34). -/
def SampleIntake.held : SampleIntake := ⟨Eight.all AnalyzerRecord.held, [], none⟩

/-- The Dose Engine after a reset, before a load (R22, R41, R47). DESIGN CHOICE (assumptions 5 and 6):
the active index, Cw and Eest stand at 0 until a load gives their values. -/
def DoseEngine.held : DoseEngine where
  profileOverride := none
  activeIndex := 0
  targetOverride := none
  pendingProfile := none
  pendingTarget := none
  cw := 0
  freeze := false
  eest := 0
  tdp := none
  pipeline := []
  history := []
  deff := 0
  m := 0
  mCap := 0
  gch := 0
  feedLimit := false
  timer := none

/-- The held condition of a Feeder Drive (R92), its inhibit asserted (R106). -/
def FeederDrive.held : FeederDrive := ⟨0, none, [], 0, 0, true⟩

/-- A Channel Supervisor after pin reset (R110). -/
def Supervisor.held : Supervisor where
  low := .clear
  high := .clear
  highHigh := .clear
  runOn := .clear
  feederFault := .clear
  stale := .clear
  tL := none
  tH := none
  tHH := none
  runOnTimer := none
  quietTimer := none
  lastResidual := none
  lockout := none

/-- The figures of an interval at its start (R145, R146). -/
def Interval.zero : Interval where
  volume := 0
  granted := 0
  mSum := 0
  gSum := 0
  shortfall := 0
  issued := 0
  confirmed := 0
  missed := 0
  late := 0
  unexpected := 0
  confirmedMass := 0
  creditDropped := 0
  received := 0
  good := 0
  unusable := 0
  minResidual := none
  maxResidual := none
  feedLimitSeen := false
  condActive := false

/-- A channel after pin reset. DESIGN CHOICE (assumption 7): its state outside service is OFF. -/
def Channel.held : Channel where
  state := .off
  dose := DoseEngine.held
  feeder := FeederDrive.held
  sup := Supervisor.held
  iv := Interval.zero

/-- The Peer View after a reset (R57). -/
def PeerView.held : PeerView := ⟨0, 0, false, 0, false, false, none, [], Four.all ⟨none, none⟩⟩

/-- The grant records after a reset (R75). -/
def GrantRecord.zero : GrantRecord := ⟨0, 0⟩

/-- An attribute at its reset values (R153). DESIGN CHOICE (assumption 6): threshold 0 until a load. -/
def Attr.reset : Attr := ⟨100, 100, 0, 0⟩

/-- The health table at its reset values (R153). -/
def HealthTable.reset : HealthTable where
  channels := Four.all ⟨Attr.reset, Attr.reset, Attr.reset⟩
  link := Attr.reset
  announce := Attr.reset

/-- The Record Builder after pin reset (R145). -/
def RecordBuilder.held : RecordBuilder := ⟨none, [], 0, 0, 0, 0, 0, 0, HealthTable.reset, false⟩

/-- The Link Controller after a reset (R156). DESIGN CHOICE (assumption 22): no station is known to drive the line. -/
def Link.held : Link := ⟨[], none, .idle, false, false, .idle, false⟩

/-- The part right after pin reset, RESET_N still low: in LOAD, every inhibit and FAULT asserted, every
block in its held condition (R165). DESIGN CHOICE (assumption 4): the profile-select lines are low. -/
def State.reset : State where
  pending := []
  resetN := false
  psel := (false, false, false)
  stn := .load
  config := none
  loader := Loader.held
  flow := FlowUnit.held
  selector := Selector.held
  intake := SampleIntake.held
  channels := Four.all Channel.held
  peer := PeerView.held
  share := Four.all GrantRecord.zero
  recs := RecordBuilder.held
  link := Link.held
  restartPending := false
  faultOut := true
  freeCount := 0

end Sys2Proof.Machine
end

