-- ==== Sys2Proof/Machine/Ops.lean ====
section
/-! DEFINITION. The named operations over the state that every family shares: saturating counts, byte
order and CRC, timers, access to channels, and the transmit queue with its drop order (R160). -/

namespace Sys2Proof.Machine

/-- The stroke mass m_s of a channel, in mg (R23). -/
def ChannelConfig.strokeMass (c : ChannelConfig) : Nat := c.vs * c.sp / 1000

/-- The feeder capacity Mmax of a channel, in mg/s (R23). -/
def ChannelConfig.feederCapacity (c : ChannelConfig) : Nat := c.strokeMass * 1000 / c.tmin

/-- The profile of a given index (R15). -/
def ChannelConfig.profile (c : ChannelConfig) (i : Fin 8) : Profile := c.profiles.get i

/-- The numbers of the channels, ascending. -/
def channelNumbers : List (Fin 4) := [0, 1, 2, 3]

/-- The configured channels, ascending. -/
def Image.configured (im : Image) : List (Fin 4) :=
  channelNumbers.filter fun k => (im.channel k).configured

/-! ### Saturating counts (0.6.4) -/

/-- A sum that stops at the top of its range. -/
def satAdd (top a b : Nat) : Nat := min top (a + b)

/-- 2^16 − 1. -/
def top16 : Nat := 65535

/-- 2^32 − 1. -/
def top32 : Nat := 4294967295

/-- 2^48 − 1. -/
def top48 : Nat := 281474976710655

/-! ### Byte order (0.6.5) and the CRC (12.1) -/

/-- The number that bytes spell, most significant byte first. -/
def beNat (bs : List Byte) : Nat := bs.foldl (fun n b => n * 256 + b.toNat) 0

/-- The k bytes of a number, most significant byte first. -/
def beBytes : Nat → Nat → List Byte
  | 0, _ => []
  | k + 1, n => BitVec.ofNat 8 (n / 256 ^ k) :: beBytes k n

/-- One bit of the CRC: generator polynomial 0x1021, no reflection. -/
def crcShift (c : BitVec 16) : BitVec 16 :=
  if c.msb then (c <<< 1) ^^^ 0x1021#16 else c <<< 1

/-- One byte of the CRC, most significant bit first. -/
def crcByte (c : BitVec 16) (b : Byte) : BitVec 16 :=
  let c := c ^^^ (b.zeroExtend 16 <<< 8)
  crcShift (crcShift (crcShift (crcShift (crcShift (crcShift (crcShift (crcShift c)))))))

/-- CRC-16 over bytes, initial value 0xFFFF, no final inversion (12.1). -/
def crc16 (bs : List Byte) : BitVec 16 := bs.foldl crcByte 0xFFFF#16

/-! ### Timers -/

/-- A timer started with a period in milliseconds. -/
def startMs (ms : Nat) : Timer := some ms

/-- A timer started with a period in seconds. -/
def startS (s : Nat) : Timer := some (s * 1000)

/-- One millisecond passes. -/
def Timer.elapse (t : Timer) : Timer := t.map fun n => n - 1

/-- The timer stands at its expiry: it runs and 0 ms remain. DESIGN CHOICE (assumption 11): time is counted in whole
milliseconds, and an expiry happens only there. -/
def Timer.due (t : Timer) : Bool := t == some 0

/-! ### Access -/

/-- The station is in a state of service (4.1). -/
def StationState.inService : StationState → Bool
  | .load => false
  | .halted => false
  | .join => true
  | .run => true
  | .isolated => true
  | .silent => true

/-- The station may send frames and answers requests: JOIN, RUN, ISOLATED (4.1, R133, R149, R157). -/
def StationState.transmits : StationState → Bool
  | .load => false
  | .halted => false
  | .join => true
  | .run => true
  | .isolated => true
  | .silent => false

/-- The configured values while the station is in service; none in LOAD and HALTED. -/
def State.service (s : State) : Option Image := if s.stn.inService then s.config else none

/-- A channel by its number. -/
def State.channel (s : State) (k : Fin 4) : Channel := s.channels.get k

/-- The state with one channel replaced. -/
def State.setChannel (s : State) (k : Fin 4) (c : Channel) : State :=
  { s with channels := s.channels.set k c }

/-- Something done to one channel. -/
def State.onChannel (s : State) (k : Fin 4) (f : Channel → Channel) : State :=
  s.setChannel k (f (s.channel k))

/-- Something done for each of some channels in turn. -/
def State.forChannels (s : State) (ks : List (Fin 4)) (f : Fin 4 → State → State) : State :=
  ks.foldl (fun s k => f k s) s

/-- The configured channels mapped to an analyzer, ascending (3.1). -/
def Image.mapped (im : Image) (a : Fin 8) : List (Fin 4) :=
  im.configured.filter fun k => (im.channel k).analyzer == some a

/-! ### The transmit queue (R156, R160) -/

/-- Number of entries of the transmit queue (R156). -/
def queueCapacity : Nat := 8

/-- Priority of a frame: ALARM 1, ANSWER 4, RECORDS 6 (10.1). -/
def Body.priority : Body → Nat
  | .alarm _ => 1
  | .answer _ => 4
  | .records _ => 6

/-- The frame is an ALARM. -/
def Body.isAlarm : Body → Bool
  | .alarm _ => true
  | .answer _ => false
  | .records _ => false

/-- A WAITING entry with a RECORDS frame. -/
def Entry.waitingRecords (e : Entry) : Bool := !e.inAttempt && e.body.priority == 6

/-- A WAITING entry with an ANSWER. -/
def Entry.waitingAnswer (e : Entry) : Bool := !e.inAttempt && e.body.priority == 4

/-- A frame as it enters the queue: WAITING, collision count 0 (R160). -/
def Entry.fresh (b : Body) (awaited : Bool) : Entry := ⟨b, awaited, 0, false⟩

/-- The list without the last entry that passes a test. -/
def dropLastThat (p : Entry → Bool) (q : List Entry) : List Entry := (q.reverse.eraseP p).reverse

/-- The drop order of R160: a frame queued into the transmit queue takes a free entry, or the entry of
the newest WAITING RECORDS, or (an ALARM) of the oldest WAITING ANSWER, or is itself dropped; a dropped
ALARM sets both parts of the alarm-overflow flag (R161). The list keeps age order. An awaited ANSWER
that is dropped has left the queue (R143). -/
def Link.enqueue (l : Link) (e : Entry) : Link :=
  if l.queue.length < queueCapacity then
    { l with queue := l.queue ++ [e] }
  else if l.queue.any Entry.waitingRecords then
    { l with queue := dropLastThat Entry.waitingRecords l.queue ++ [e] }
  else if e.body.isAlarm then
    match l.queue.find? Entry.waitingAnswer with
    | some victim =>
      { l with
        queue := l.queue.eraseP Entry.waitingAnswer ++ [e]
        awaitedLeft := l.awaitedLeft || victim.awaited }
    | none => { l with overflowDemand := true, overflowAlarm := true }
  else
    { l with awaitedLeft := l.awaitedLeft || e.awaited }

/-- The next free choice, which the model reads where the manual leaves an order open (assumption 2). -/
def State.choice (s : State) : Nat := Config.freeChoice s.freeCount

/-- A free choice has been read. -/
def State.choiceRead (s : State) : State := { s with freeCount := s.freeCount + 1 }

end Sys2Proof.Machine
end

