-- ==== Sys2Proof/Machine/Operands.lean ====
section
/-! DEFINITION. The operand forms of the commands: how the bytes of a request, a frame, a message or the
profile-select lines are read (2.3, 12.1.1, 12.2, 12.5, R171). -/

namespace Sys2Proof.Machine

/-- The index on the profile-select lines: PSEL0 plus twice PSEL1 plus four times PSEL2 (R16). -/
def lineIndex (p0 p1 p2 : Bool) : Fin 8 :=
  match p2, p1, p0 with
  | false, false, false => 0
  | false, false, true => 1
  | false, true, false => 2
  | false, true, true => 3
  | true, false, false => 4
  | true, false, true => 5
  | true, true, false => 6
  | true, true, true => 7

/-- A number 0-3 as a channel or group number. -/
def fourOf (n : Nat) : Option (Fin 4) := if h : n < 4 then some ⟨n, h⟩ else none

/-- A number 0-7 as an analyzer number or profile index. -/
def eightOf (n : Nat) : Option (Fin 8) := if h : n < 8 then some ⟨n, h⟩ else none

/-- The channel that a request names, when it exists and is configured (R133). -/
def Image.named (im : Image) (ch : Byte) : Option (Fin 4) :=
  match fourOf ch.toNat with
  | some k => if (im.channel k).configured then some k else none
  | none => none

/-- The deferred flag of TARGET and PROFILE: bit 0 (12.2). Undefined bits are ignored (R171). -/
def deferredFlag (flags : Byte) : Bool := flags.getLsbD 0

/-- The revert flag of TARGET, the release flag of PROFILE: bit 1 (12.2). -/
def clearingFlag (flags : Byte) : Bool := flags.getLsbD 1

/-- The health-warning flag of a DEMAND: bit 0 (12.2). -/
def demandHealthFlag (flags : Byte) : Bool := flags.getLsbD 0

/-- A frame from another station is acted on as a request when its destination is the station's own
number or 255 (R133, R163). -/
def Image.addressed (im : Image) (dst : Byte) : Bool :=
  dst.toNat == im.station.number || dst.toNat == 255

/-- The frame bears the station's own number as its source (R64). -/
def Image.ownSource (im : Image) (src : Byte) : Bool := src.toNat == im.station.number

/-- An announced weight as held: 0 is taken as 1, above 15 as 15 (R69). -/
def heldWeight (w : Nat) : Nat := if w = 0 then 1 else if 15 < w then 15 else w

/-- An announced station state as held: a code other than JOIN 1, RUN 2, ISOLATED 3 is UNKNOWN (R69). -/
def reportedState (code : Byte) : ReportedState :=
  if code = 1 then .join else if code = 2 then .run else if code = 3 then .isolated else .unknown

/-- Measurand codes of an analyzer message: RESIDUAL 1, TURBIDITY 2 (12.5). -/
def measurandOf (code : Byte) : Option Measurand :=
  if code = 1 then some .residual else if code = 2 then some .turbidity else none

/-- The quality an analyzer gives its result: GOOD 0, SUSPECT 1, FAULT 2 (12.5). -/
inductive SentQuality where
  | good
  | suspect
  | fault
deriving DecidableEq, Repr

/-- Quality codes of an analyzer message (12.5). -/
def qualityOf (code : Byte) : Option SentQuality :=
  if code = 0 then some .good else if code = 1 then some .suspect
  else if code = 2 then some .fault else none

/-- Top of a measurand's range: 1,000 for RESIDUAL, 10,000 for TURBIDITY (R36). -/
def Measurand.top : Measurand → Nat
  | .residual => 1000
  | .turbidity => 10000

/-- The measurand a channel kind uses (R38). -/
def Kind.measures (k : Kind) (m : Measurand) : Bool :=
  match k, m with
  | .coagulant, .turbidity => true
  | .chlorine, .residual => true
  | .coagulant, .residual => false
  | .chlorine, .turbidity => false
  | .none, .residual => false
  | .none, .turbidity => false

/-- Top of the range of a target: 20,000 on a coagulant channel, 1,000 on a chlorine one (R135). -/
def Kind.targetTop : Kind → Nat
  | .none => 0
  | .coagulant => 20000
  | .chlorine => 1000

/-- The bytes of a sample message as they stand on the line (12.5). -/
def messageBytes (m : SampleMessage) : List Byte :=
  [m.start, m.analyzer, m.measurand, m.quality] ++ beBytes 2 m.value.toNat ++ [m.check]

/-- The message that seven received bytes make (12.5, R172); a byte that is missing reads as 0. -/
def messageOf (bs : List Byte) : SampleMessage where
  start := bs.getD 0 0
  analyzer := bs.getD 1 0
  measurand := bs.getD 2 0
  quality := bs.getD 3 0
  value := (bs.getD 4 0) ++ (bs.getD 5 0)
  check := bs.getD 6 0

/-- The start mark of a message (12.5). -/
def startMark : Byte := 0xA5

/-- The check byte makes the sum of the seven bytes 0 modulo 256 (12.5). -/
def checkHolds (m : SampleMessage) : Bool :=
  ((messageBytes m).foldl (fun n b => n + b.toNat) 0) % 256 == 0

end Sys2Proof.Machine
end

