-- ==== Sys2Proof/Machine/Flags.lean ====
section
/-! DEFINITION. Every flag, status byte and output level the manual computes: condition word, status and
flag bytes of frames (12.1.1 to 12.4), the FAULT output (R128), the drive inhibit (R106), the
health-warning flag (R154). -/

namespace Sys2Proof.Machine

/-- A bit of a flag byte. -/
def flagBit (b : Bool) (k : Nat) : Nat := if b then 2 ^ k else 0

/-- Condition codes: CLEAR 0, ALERT 1, ACTIVE 2 (12.1.1). -/
def Cond.code : Cond → Nat
  | .clear => 0
  | .alert => 1
  | .active => 2

/-- The condition word: two bits a condition (12.1.1). -/
def conditionWord (low high highHigh runOn feederFault stale : Cond) : Nat :=
  low.code + 4 * high.code + 16 * highHigh.code + 64 * runOn.code + 256 * feederFault.code
    + 1024 * stale.code

/-- Channel state codes (12.1.1). -/
def ChannelState.code : ChannelState → Nat
  | .off => 0
  | .dosing => 1
  | .standby => 2
  | .held => 3
  | .faulted => 4
  | .locked => 5

/-- Station state codes (12.1.1). LOAD and HALTED have none: no frame is built in them. -/
def StationState.code : StationState → Nat
  | .load => 0
  | .halted => 0
  | .join => 1
  | .run => 2
  | .isolated => 3
  | .silent => 4

/-- Reported state codes; UNKNOWN is 0 (12.1.1). -/
def ReportedState.code : ReportedState → Nat
  | .unknown => 0
  | .join => 1
  | .run => 2
  | .isolated => 3

/-- Kind codes of a channel (12.1.1). -/
def Kind.code : Kind → Nat
  | .none => 0
  | .coagulant => 1
  | .chlorine => 2

/-- Result codes (12.1.1). -/
def ResultCode.code : ResultCode → Nat
  | .accepted => 0
  | .clamped => 1
  | .refusedState => 2
  | .refusedFrozen => 3
  | .refusedValue => 4
  | .refusedChannel => 5
  | .refusedPresent => 6

/-- Quality codes in an ANSWER (12.4). -/
def Quality.code : Quality → Nat
  | .good => 0
  | .suspect => 1

/-- View codes of a CHANNEL answer: ACTIVE 0, PENDING 1 (12.2, 12.4). -/
def View.code : View → Nat
  | .active => 0
  | .pending => 1

/-- Cause codes of an ALARM (12.3). -/
def AlarmCause.code : AlarmCause → Nat
  | .residualSample => 1
  | .tLExpiry => 2
  | .tHExpiry => 3
  | .tHHExpiry => 4
  | .runOnEvent => 5
  | .feederFaultEvent => 6
  | .analyzerStale => 7
  | .analyzerFresh => 8
  | .clearFeeder => 9
  | .release => 10

/-- Cause codes of a lockout record (12.4). -/
def LockCause.code : LockCause → Nat
  | .highHigh => 1
  | .runOn => 2

/-- Status byte of a CHANNEL answer (12.4). -/
def channelStatus (r : ChannelReport) : Nat :=
  flagBit r.sourceOverride 0 + flagBit r.profileFromSlot 1 + flagBit r.targetFromSlot 2
    + flagBit r.freeze 3 + flagBit r.feedLimit 4

/-- An entry of the peer table is STALE at ages 3 to 5 (R70). -/
def PeerEntry.stale (e : PeerEntry) : Bool := decide (3 ≤ e.age)

/-- Status byte of a peer entry in a PEERS answer (12.4). -/
def peerStatus (e : PeerEntry) : Nat :=
  e.state.code + flagBit e.healthWarning 2 + flagBit e.stale 3 + 16 * e.age

/-- Flags byte of a LOCKOUT answer (12.4). -/
def lockoutFlags (r : Lockout) : Nat :=
  flagBit r.additionalHighHigh 0 + flagBit r.additionalRunOn 1 + flagBit r.released 2

/-- Flags byte of a dose record (12.3). -/
def recordFlags (r : DoseRecord) : Nat :=
  flagBit r.feedLimitSeen 0 + flagBit r.unusableSeen 1 + flagBit r.condActive 2

/-- Flags byte of a DEMAND (12.2). -/
def demandFlags (healthWarning overflow : Bool) : Nat := flagBit healthWarning 0 + flagBit overflow 1

/-- A channel state that asserts FAULT (R128). -/
def ChannelState.asserts : ChannelState → Bool
  | .off => false
  | .dosing => false
  | .standby => false
  | .held => false
  | .faulted => true
  | .locked => true

/-- The level FAULT must have: LOAD, HALTED, or a channel FAULTED or LOCKED (R128). -/
def State.faultLevel (s : State) : Bool :=
  !s.stn.inService || s.channels.toList.any fun c => c.state.asserts

/-- The FAULT output is formed anew (R128). -/
def State.formFault (s : State) : State := { s with faultOut := s.faultLevel }

/-- The level an inhibit must have: the channel LOCKED, or the station in LOAD or HALTED (R106). -/
def inhibitLevel (stn : StationState) (c : ChannelState) : Bool :=
  !stn.inService || c == .locked

/-- An attribute lies below its threshold (R154). -/
def Attr.below (a : Attr) : Bool := decide (a.value < a.threshold)

/-- Any of the three attributes of a channel lies below its threshold. -/
def ChannelHealth.below (h : ChannelHealth) : Bool :=
  h.feed.below || h.share.below || h.samples.below

/-- The health-warning flag: any attribute below its threshold (R154). -/
def HealthTable.anyBelow (h : HealthTable) : Bool :=
  h.channels.toList.any ChannelHealth.below || h.link.below || h.announce.below

end Sys2Proof.Machine
end

