-- ==== Sys2Proof/Machine/Formats.lean ====
section
/-! DEFINITION. The frames the part builds, byte for byte (12.1 to 12.4): payloads, and the whole frame
with its header and CRC. -/

namespace Sys2Proof.Machine

/-- Kind codes of frames (12.1.1). -/
def Body.kindCode : Body → Nat
  | .alarm _ => 3
  | .answer _ => 4
  | .records _ => 5

/-- A 2-byte value, 0xFFFF for none (12.3, 12.4). -/
def optHalf (v : Option Nat) : List Byte := beBytes 2 (v.getD 65535)

/-- One byte. -/
def oneByte (n : Nat) : List Byte := beBytes 1 n

/-- Payload of a DEMAND: weight, state, flags, four demands (12.2). -/
def Demand.payload (d : Demand) (overflow : Bool) : List Byte :=
  oneByte d.weight ++ oneByte d.state.code ++ oneByte (demandFlags d.healthWarning overflow)
    ++ d.demand.toList.flatMap (beBytes 4)

/-- Payload of a station ALARM: channel 255, cause 0, no residual, states 255, condition word 0 (12.3). -/
def stationAlarm (kind : Nat) (overflow : Bool) : List Byte :=
  oneByte kind ++ oneByte (flagBit overflow 0) ++ oneByte 255 ++ oneByte 0 ++ optHalf none
    ++ oneByte 255 ++ oneByte 255 ++ beBytes 2 0

/-- Payload of an ALARM (12.3). -/
def Alarm.payload (a : Alarm) (overflow : Bool) : List Byte :=
  match a with
  | .channel ch cause residual before after low high highHigh runOn feederFault stale =>
    oneByte 1 ++ oneByte (flagBit overflow 0) ++ oneByte ch.val ++ oneByte cause.code
      ++ optHalf residual ++ oneByte before.code ++ oneByte after.code
      ++ beBytes 2 (conditionWord low high highHigh runOn feederFault stale)
  | .isolationBegun => stationAlarm 2 overflow
  | .isolationEnded => stationAlarm 3 overflow
  | .addressConflict => stationAlarm 4 overflow

/-- The 27 bytes of a dose record (12.3). -/
def DoseRecord.payload (r : DoseRecord) : List Byte :=
  beBytes 2 r.seq ++ oneByte r.channel.val ++ oneByte r.state.code ++ beBytes 4 r.volume
    ++ beBytes 4 r.granted ++ beBytes 4 r.confirmedMass ++ beBytes 4 r.shortfall
    ++ beBytes 2 r.meanDose ++ optHalf r.minResidual ++ optHalf r.maxResidual
    ++ oneByte (recordFlags r)

/-- The first 8 of the 49 bytes of a CHANNEL answer: what the channel is and how it stands (12.4). -/
def ChannelReport.standing (r : ChannelReport) : List Byte :=
  oneByte r.view.code ++ oneByte r.kind.code ++ oneByte r.group.val ++ oneByte r.state.code
    ++ beBytes 2 (conditionWord r.low r.high r.highHigh r.runOn r.feederFault r.stale)
    ++ oneByte r.profile.val ++ oneByte (channelStatus r)

/-- The next 22 bytes: the dose and its figures (12.4). -/
def ChannelReport.figures (r : ChannelReport) : List Byte :=
  beBytes 2 r.base ++ optHalf r.target ++ beBytes 2 r.cw ++ beBytes 2 r.deff ++ beBytes 4 r.m
    ++ beBytes 4 r.mCap ++ beBytes 4 r.gch ++ beBytes 2 r.estimate

/-- The last 19 bytes: the analyzer's reading, the credit, the strokes and their counts (12.4). -/
def ChannelReport.counts (r : ChannelReport) : List Byte :=
  optHalf (r.analyzer.map Reading.value) ++ oneByte ((r.analyzer.map fun a => a.quality.code).getD 255)
    ++ beBytes 4 r.ac ++ oneByte r.outstanding ++ oneByte r.misses ++ beBytes 2 r.issued
    ++ beBytes 2 r.confirmed ++ beBytes 2 r.missed ++ beBytes 2 r.late ++ beBytes 2 r.unexpected

/-- Contents of a CHANNEL answer after its subject byte: 49 bytes (12.4). -/
def ChannelReport.payload (r : ChannelReport) : List Byte := r.standing ++ r.figures ++ r.counts

/-- One group of a STATION answer (12.4). -/
def GroupReport.payload (g : GroupReport) : List Byte :=
  beBytes 4 g.capacity ++ beBytes 4 g.dOwn ++ beBytes 4 g.gStation

/-- One entry of a PEERS answer: 19 bytes (12.4). -/
def PeerEntry.payload (e : PeerEntry) : List Byte :=
  oneByte e.number ++ oneByte e.weight ++ oneByte (peerStatus e)
    ++ e.demand.toList.flatMap (beBytes 4)

/-- Contents of a LOCKOUT answer: 21 bytes, all 0 when the record is absent (12.4). -/
def lockoutPayload (r : Option Lockout) : List Byte :=
  match r with
  | none => List.replicate 21 0
  | some l =>
    oneByte 1 ++ oneByte l.cause.code ++ beBytes 6 l.v ++ oneByte l.profile.val ++ beBytes 2 l.deff
      ++ beBytes 4 l.gch ++ beBytes 2 l.estimate ++ optHalf l.lastResidual ++ oneByte l.outstanding
      ++ oneByte (lockoutFlags l)

/-- One attribute of a HEALTH answer: the raw count stops at 16,777,215 (12.4). -/
def Attr.payload (a : Attr) : List Byte :=
  oneByte a.value ++ oneByte a.worst ++ oneByte a.threshold ++ beBytes 3 (min 16777215 a.raw)

/-- The fourteen attributes in the order of 12.4. -/
def HealthTable.payload (h : HealthTable) : List Byte :=
  (h.channels.toList.flatMap fun c => c.feed.payload ++ c.share.payload ++ c.samples.payload)
    ++ h.link.payload ++ h.announce.payload

/-- What follows the three opening bytes of an ANSWER; subject codes CHANNEL 1, STATION 2, PEERS 3,
LOCKOUT 4, HEALTH 5 with the warning in bit 7 (12.4). -/
def AnswerContent.payload : AnswerContent → List Byte
  | .plain => []
  | .value v => optHalf v
  | .channel r => oneByte 1 ++ r.payload
  | .station state silence warning groups =>
    oneByte 2 ++ oneByte state.code ++ oneByte silence ++ oneByte (flagBit warning 0)
      ++ groups.toList.flatMap GroupReport.payload
  | .peers count entries => oneByte 3 ++ oneByte count ++ entries.flatMap PeerEntry.payload
  | .lockout r => oneByte 4 ++ lockoutPayload r
  | .health h warning => oneByte (5 + flagBit warning 7) ++ h.payload

/-- Payload of an ANSWER: tag, kind and result, channel, contents (12.4). -/
def Answer.payload (a : Answer) : List Byte :=
  [a.tag] ++ oneByte (16 * a.kind + a.result.code) ++ [a.channel] ++ a.content.payload

/-- Payload of a queued frame, with the overflow bit in an ALARM (R161). -/
def Body.payload (b : Body) (overflow : Bool) : List Byte :=
  match b with
  | .alarm a => a.payload overflow
  | .answer a => a.payload
  | .records rs => rs.flatMap DoseRecord.payload

/-- Destination: the request's source for an ANSWER, 255 otherwise (R171). -/
def Body.dst : Body → Byte
  | .alarm _ => 255
  | .answer a => a.dst
  | .records _ => 255

/-- Header and payload of a frame (12.1). -/
def frameHead (priority source kind : Nat) (dst : Byte) (payload : List Byte) : List Byte :=
  oneByte priority ++ oneByte source ++ oneByte kind ++ [dst] ++ oneByte payload.length ++ payload

/-- The bytes with their CRC after them (12.1). -/
def withCrc (bs : List Byte) : List Byte := bs ++ beBytes 2 (crc16 bs).toNat

/-- A queued frame as it is driven on the line (R157). -/
def Body.wire (b : Body) (source : Nat) (overflow : Bool) : List Byte :=
  withCrc (frameHead b.priority source b.kindCode b.dst (b.payload overflow))

/-- A DEMAND as it is driven on the line: priority 2, kind 1, destination 255 (R67, R157). -/
def Demand.wire (d : Demand) (source : Nat) (overflow : Bool) : List Byte :=
  withCrc (frameHead 2 source 1 255 (d.payload overflow))

end Sys2Proof.Machine
end

