-- ==== Sys2Proof/Machine/Attempt.lean ====
section
/-! DEFINITION. The beginning of an attempt (R157): which frame is chosen, the test that is made when the line
becomes idle, when a frame is queued or announced, and at entry into JOIN from SILENT. -/

namespace Sys2Proof.Machine

/-! ### Choosing a frame (R157) -/

/-- Another station drives the line: it is not idle until 16 bit times have passed without one (R162). -/
def Link.lineDriven (l : Link) : Link := { l with line := .driven }

/-- A WAITING entry of a given priority. -/
def Entry.waitingAt (p : Nat) (e : Entry) : Bool := !e.inAttempt && e.body.priority == p

/-- The lowest priority number among the WAITING entries of the queue (R157). -/
def bestWaiting (q : List Entry) : Option Nat :=
  ((q.filter fun e => !e.inAttempt).map fun e => e.body.priority).min?

/-- The first entry that passes a test becomes IN ATTEMPT. -/
def markFirst (p : Entry → Bool) : List Entry → List Entry
  | [] => []
  | e :: es => if p e then { e with inAttempt := true } :: es else e :: markFirst p es

/-- The overflow bit a queued frame carries: that of ALARM frames (R161). -/
def Link.overflowFor (l : Link) (b : Body) : Bool := b.isAlarm && l.overflowAlarm

/-- An attempt of the oldest WAITING entry of a priority begins; the station drives the line (R157). -/
def Link.attemptEntry (l : Link) (own p : Nat) : Link :=
  match l.queue.find? (Entry.waitingAt p) with
  | none => l
  | some e =>
    { l with
      queue := markFirst (Entry.waitingAt p) l.queue
      tx := .entry (l.overflowFor e.body) (e.body.wire own (l.overflowFor e.body))
      line := .own }

/-- An attempt of the announce slot's DEMAND begins: it leaves the slot (R156, R157, R161). -/
def Link.attemptDemand (l : Link) (own : Nat) (a : Announcement) : Link :=
  { l with
    slot := none
    tx := .demand a l.overflowDemand (a.demand.wire own l.overflowDemand)
    line := .own }

/-- The choice of R157: the lowest priority number, the slot's DEMAND counting at 2, the oldest among
equals. -/
def Link.beginAttempt (l : Link) (own : Nat) : Link :=
  match l.slot, bestWaiting l.queue with
  | none, none => l
  | none, some p => l.attemptEntry own p
  | some a, none => l.attemptDemand own a
  | some a, some p => if p < 2 then l.attemptEntry own p else l.attemptDemand own a

/-- A frame is WAITING in the queue or in the announce slot. -/
def Link.anyWaiting (l : Link) : Bool := l.slot.isSome || l.queue.any fun e => !e.inAttempt

/-! ### The test of R157 -/

/-- The station's own number (12.6). -/
def State.stationNumber (s : State) : Nat := (s.config.map fun im => im.station.number).getD 0

/-- Every condition of R157 that the part holds: JOIN, RUN or ISOLATED, the transmitter idle, a frame WAITING,
and no station known to have driven the line since it was last idle. -/
def State.mayAttempt (s : State) : Bool :=
  s.service.isSome && s.stn.transmits && s.link.tx == .idle && s.link.line == .idle && s.link.anyWaiting

/-- The link after the test of R157: an attempt of the chosen frame begins if the line is idle. DESIGN CHOICE
(assumption 15): whether another station has begun to drive it since it was last idle is for a free choice to
say; if one has, the line is not idle until the next TRANSMIT_ATTEMPT. -/
def State.testedLink (s : State) : Link :=
  if s.mayAttempt then
    if s.choice % 2 = 0 then s.link.beginAttempt s.stationNumber else s.link.lineDriven
  else s.link

/-- The test of R157, as a frame is queued or announced or JOIN is entered from SILENT. -/
def State.attemptTest (s : State) : State :=
  { s with
    link := s.testedLink
    freeCount := if s.mayAttempt then s.freeCount + 1 else s.freeCount }

/-- A frame queued to the Link Controller, which is one of the events of the test of R157 (R160). -/
def State.enqueue (s : State) (b : Body) (awaited : Bool := false) : State :=
  ({ s with link := s.link.enqueue (Entry.fresh b awaited) } : State).attemptTest

end Sys2Proof.Machine
end

