-- ==== Sys2Proof/Machine/Restart.lean ====
section
/-! DEFINITION. The two resets (R13, R130, R132, R165, R169): the pin reset, the start of a restart with
what it keeps, and the moment within an event at which an awaited restart begins (R143). -/

namespace Sys2Proof.Machine

/-- The Loader begins a read: the header's transaction starts, with its 25 ms limit (R165). -/
def Loader.begin : Loader := ⟨.reading, .header, 0, startMs 25, []⟩

/-- The Link Controller after a reset: everything in its held condition (R156). What is known of the share link is
kept (assumption 22); a frame of its own the part stops driving within the reset. -/
def Link.afterReset (l : Link) : Link := { Link.held with line := l.line }

/-- Pin reset: every block in its held condition, nothing kept (R169). The levels of the lines and the
waiting commands are outside the part. -/
def State.pinReset (s : State) : State :=
  { State.reset with
    pending := s.pending
    psel := s.psel
    link := s.link.afterReset
    freeCount := s.freeCount }

/-- What a restart keeps of a condition that may lock: ACTIVE on a channel that is LOCKED (R130). -/
def keptCondition (locked : Bool) (c : Cond) : Cond :=
  if locked && c == .active then .active else .clear

/-- A Channel Supervisor at the start of a restart: conditions CLEAR but those that lock a LOCKED channel,
timers stopped, last residual absent, lockout record kept (R110, R130). -/
def Supervisor.heldForRestart (p : Supervisor) (locked : Bool) : Supervisor :=
  { Supervisor.held with
    highHigh := keptCondition locked p.highHigh
    runOn := keptCondition locked p.runOn
    lockout := p.lockout }

/-- A channel at the start of a restart (R22, R41, R47, R92, R130, R145). -/
def Channel.heldForRestart (c : Channel) : Channel :=
  { Channel.held with
    state := if c.state == .locked then .locked else .off
    sup := c.sup.heldForRestart (c.state == .locked) }

/-- An attribute at the start of a restart: its value returns to 100, worst and raw count are kept
(R145). -/
def Attr.restarted (a : Attr) : Attr := { a with value := 100 }

/-- The health table at the start of a restart (R145). -/
def HealthTable.restarted (h : HealthTable) : HealthTable where
  channels := Four.ofFn fun k =>
    let c := h.channels.get k
    ⟨c.feed.restarted, c.share.restarted, c.samples.restarted⟩
  link := h.link.restarted
  announce := h.announce.restarted

/-- The Record Builder at the start of a restart: sequence counter and health history kept (R145). -/
def RecordBuilder.restarted (r : RecordBuilder) : RecordBuilder :=
  { RecordBuilder.held with seq := r.seq, health := r.health.restarted }

/-- The start of a restart: the station enters LOAD, every block takes its held condition, and the read
of the image begins at once (R165, R169). The configured values stay until the load ends, so that the
load can compare the kinds of the old image (R130, R166). -/
def State.beginRestart (s : State) : State :=
  { s with
    stn := .load
    loader := Loader.begin
    flow := FlowUnit.held
    selector := Selector.held
    intake := SampleIntake.held
    channels := Four.ofFn fun k => (s.channel k).heldForRestart
    peer := PeerView.held
    share := Four.all GrantRecord.zero
    recs := s.recs.restarted
    link := s.link.afterReset
    restartPending := false
    faultOut := true }

/-- The end of an event: when an awaited ANSWER has left the transmit queue in it while the
restart-pending flag is set, the restart begins (R132, R143; assumption 3). -/
def State.settleRestart (s : State) : State :=
  if s.link.awaitedLeft then
    if s.restartPending then s.beginRestart
    else { s with link := { s.link with awaitedLeft := false } }
  else s

end Sys2Proof.Machine
end

