-- ==== Sys2Proof/Machine/Supervise.lean ====
section
/-! DEFINITION. The Channel Supervisor's shared operation (7.1 to 7.7): deriving the state, what a changed
state brings about, the lockout record, and the CHANNEL ALARM of an event. -/

namespace Sys2Proof.Machine

/-- The channel state that a condition table and the idle flag give, by precedence LOCKED, FAULTED, HELD,
STANDBY, DOSING (R111). -/
def Supervisor.derive (p : Supervisor) (idle : Bool) : ChannelState :=
  if p.highHigh == .active || p.runOn == .active then .locked
  else if p.feederFault == .active then .faulted
  else if p.high == .active then .held
  else if idle then .standby
  else .dosing

/-- Eest of a chlorine channel, Tdp of a coagulant one; in the default condition Tdp reads as the K of the
active profile (R41, R121, R151). -/
def Channel.estimate (cc : ChannelConfig) (c : Channel) : Nat :=
  if cc.kind == .chlorine then c.dose.eest
  else c.dose.tdp.getD (cc.profile c.dose.activeIndex).k

/-- The lockout record captured at entry into LOCKED, from the channel as it stood when the event
began (R121, R122). -/
def captureLockout (cc : ChannelConfig) (v : Nat) (before : Channel) (cause : LockCause) : Lockout where
  cause := cause
  v := v
  profile := before.dose.activeIndex
  deff := before.dose.deff
  gch := before.dose.gch
  estimate := before.estimate cc
  lastResidual := before.sup.lastResidual
  outstanding := before.feeder.strokes.length
  additionalHighHigh := false
  additionalRunOn := false
  released := false

/-- A condition has become ACTIVE in an event. -/
def becameActive (before after : Cond) : Bool := before != .active && after == .active

/-- A condition has become ACTIVE, or has returned from ACTIVE to CLEAR (R129). -/
def crossedActive (before after : Cond) : Bool := (before == .active) != (after == .active)

/-- Any of the six conditions is ACTIVE. -/
def Supervisor.anyActive (p : Supervisor) : Bool :=
  [p.low, p.high, p.highHigh, p.runOn, p.feederFault, p.stale].any fun c => c == .active

/-- Any of the six conditions crossed ACTIVE in an event (R129). -/
def conditionsCrossed (before after : Supervisor) : Bool :=
  crossedActive before.low after.low || crossedActive before.high after.high
    || crossedActive before.highHigh after.highHigh || crossedActive before.runOn after.runOn
    || crossedActive before.feederFault after.feederFault || crossedActive before.stale after.stale

/-- Any of the six conditions has become ACTIVE in an event (R146). -/
def anyBecameActive (before after : Supervisor) : Bool :=
  becameActive before.low after.low || becameActive before.high after.high
    || becameActive before.highHigh after.highHigh || becameActive before.runOn after.runOn
    || becameActive before.feederFault after.feederFault || becameActive before.stale after.stale

/-- A state whose entry or leaving queues an ALARM: HELD, FAULTED, LOCKED (R129). -/
def ChannelState.alarmed : ChannelState → Bool
  | .off => false
  | .dosing => false
  | .standby => false
  | .held => true
  | .faulted => true
  | .locked => true

/-- An event queues a CHANNEL ALARM on a channel (R129). -/
def alarmCalled (before after : Channel) : Bool :=
  conditionsCrossed before.sup after.sup
    || (before.state != after.state && (before.state.alarmed || after.state.alarmed))

/-- The lockout record after a derivation: captured at entry into LOCKED (R122), given an
additional-cause flag when the other lockout condition becomes ACTIVE on a LOCKED channel (R123). -/
def lockoutAfter (cc : ChannelConfig) (v : Nat) (before after : Channel) (st : ChannelState) :
    Option Lockout :=
  let hh := becameActive before.sup.highHigh after.sup.highHigh
  let ro := becameActive before.sup.runOn after.sup.runOn
  if st == .locked then
    if before.state == .locked then
      after.sup.lockout.map fun r =>
        { r with
          additionalHighHigh := r.additionalHighHigh || hh
          additionalRunOn := r.additionalRunOn || ro }
    else some (captureLockout cc v before (if hh then .highHigh else .runOn))
  else after.sup.lockout

/-- Leaving DOSING sets M′ and Gch to 0 mg/s and clears FEED LIMIT (R30). -/
def DoseEngine.leaveDosing (d : DoseEngine) : DoseEngine :=
  { d with mCap := 0, gch := 0, feedLimit := false }

/-- The channel after an event on it: its state derived once from the changed condition table, and what
the change of state brings about (R111, R112 steps 1 to 3, R146). `before` is the channel when the event
began, `after` the channel with the event's own changes made. -/
def supervise (cc : ChannelConfig) (v : Nat) (idle : Bool) (before after : Channel) : Channel :=
  let st := after.sup.derive idle
  let left := before.state == .dosing && st != .dosing
  { after with
    state := st
    dose := if left then after.dose.leaveDosing else after.dose
    feeder :=
      { after.feeder with
        ac := if left then 0 else after.feeder.ac
        inh := st == .locked }
    sup := { after.sup with lockout := lockoutAfter cc v before after st }
    iv := { after.iv with condActive := after.iv.condActive || anyBecameActive before.sup after.sup } }

/-- The CHANNEL ALARM of an event (R129). A residual sample has made the last residual its own value, so
the residual field is the last residual for every cause. -/
def channelAlarm (k : Fin 4) (cause : AlarmCause) (before : ChannelState) (c : Channel) : Alarm :=
  .channel k cause c.sup.lastResidual before c.state c.sup.low c.sup.high c.sup.highHigh c.sup.runOn
    c.sup.feederFault c.sup.stale

/-- One event on channel k: the channel takes the event's changes `after`, its state is derived, FAULT is
formed anew, and at most one CHANNEL ALARM is queued (R112). An event without a cause (a change of the
idle flag) moves a channel between STANDBY and DOSING only, and queues none. -/
def State.settleChannel (s : State) (im : Image) (k : Fin 4) (after : Channel)
    (cause : Option AlarmCause) : State :=
  let before := s.channel k
  let c := supervise (im.channel k) s.flow.v s.flow.idle before after
  let s := (s.setChannel k c).formFault
  match cause with
  | some a => if alarmCalled before c then s.enqueue (.alarm (channelAlarm k a before.state c)) else s
  | none => s

/-- Each Channel Supervisor is told that the idle flag has changed and derives its state (R3, R8). -/
def State.rederiveAll (s : State) (im : Image) : State :=
  s.forChannels im.configured fun k s => s.settleChannel im k (s.channel k) none

end Sys2Proof.Machine
end

