-- ==== Sys2Proof/Machine/Flow.lean ====
section
/-! DEFINITION. The Flow Unit (Chapter 1): FLOW_PULSE, FLOW_SAMPLE, IDLE_TIMER_EXPIRY. -/

namespace Sys2Proof.Machine

/-- The part of a pulse that is done in the Flow Unit: the count rises, stopping at 65,535, the idle timer
is restarted, and a set idle flag is cleared (R3). -/
def FlowUnit.pulse (f : FlowUnit) (idleTime : Nat) : FlowUnit :=
  { f with pulseCount := satAdd top16 f.pulseCount 1, idleTimer := startS idleTime, idle := false }

/-- FLOW_PULSE: a rising edge on FLOW (R3). In LOAD and HALTED it has no effect (R1). -/
def execFlowPulse (s : State) : Host.Outcome State Fault Refusal :=
  match s.service with
  | none => .next s
  | some im =>
    let s' := { s with flow := s.flow.pulse im.station.idleTime }
    if s.flow.idle then .next (s'.rederiveAll im) else .next s'

/-- The mean of the ring, rounded down (R5). -/
def ringMean (r : Four Nat) : Nat := (r.c0 + r.c1 + r.c2 + r.c3) / 4

/-- The next ring position, from 3 back to 0 (R4). -/
def nextPosition (i : Fin 4) : Fin 4 :=
  match i with
  | 0 => 1
  | 1 => 2
  | 2 => 3
  | 3 => 0

/-- V after a sample of some litres, stopping at 2^48 − 1 (R6). -/
def advanceV (v litres : Nat) : Nat := satAdd top48 v litres

/-- Steps 1 to 5 of a flow sample (R4), and the restart of its timer. -/
def FlowUnit.sample (f : FlowUnit) (litresPerPulse : Nat) : FlowUnit :=
  let litres := f.pulseCount * litresPerPulse
  let ring := f.ring.set f.wpos (min litres 40000)
  { f with
    pulseCount := 0
    ring := ring
    wpos := nextPosition f.wpos
    q := ringMean ring
    v := advanceV f.v litres
    sampleTimer := startMs 1000 }

/-- The rise of V is added to the interval volume of a channel (R12, R146). -/
def Channel.addVolume (c : Channel) (litres : Nat) : Channel :=
  { c with iv := { c.iv with volume := satAdd top32 c.iv.volume litres } }

/-- FLOW_SAMPLE: the flow-sample timer expires (R4, R12). -/
def execFlowSample (s : State) : Host.Outcome State Fault Refusal :=
  match s.service with
  | none => .next s
  | some im =>
    if s.flow.sampleTimer.due then
      let flow := s.flow.sample im.station.litresPerPulse
      let rise := flow.v - s.flow.v
      .next (({ s with flow := flow } : State).forChannels im.configured fun k s =>
        s.onChannel k fun c => c.addVolume rise)
    else .next s

/-- The Flow Unit at an idle-timer expiry: the flag is set and the timer stays stopped (R8). -/
def FlowUnit.goIdle (f : FlowUnit) : FlowUnit := { f with idleTimer := none, idle := true }

/-- IDLE_TIMER_EXPIRY: the idle timer stands at its expiry (R8). After a pulse that has restarted the timer it
does not happen (R9). -/
def execIdleTimerExpiry (s : State) : Host.Outcome State Fault Refusal :=
  match s.service with
  | none => .next s
  | some im =>
    if s.flow.idleTimer.due then
      .next (({ s with flow := s.flow.goIdle } : State).rederiveAll im)
    else .next s

end Sys2Proof.Machine
end

