-- ==== Sys2Proof/Machine/Image.lean ====
section
/-! DEFINITION. The configuration image (12.6) and its checks (R166): sizes of its parts, the fields of each
block with their ranges, cross-field conditions, CRC. -/

namespace Sys2Proof.Machine

/-- Length of a format 1 image (12.6). -/
def imageLength : Nat := 539

/-- Bytes of a part of the image (12.6, R165). -/
def Part.size : Part → Nat
  | .header => 3
  | .station => 18
  | .group _ => 8
  | .channel _ => 121
  | .crc => 2

/-- The part after a part, in ascending address order; none after the CRC (R165, 12.6). -/
def Part.next : Part → Option Part
  | .header => some .station
  | .station => some (.group 0)
  | .group 0 => some (.group 1)
  | .group 1 => some (.group 2)
  | .group 2 => some (.group 3)
  | .group 3 => some (.channel 0)
  | .channel 0 => some (.channel 1)
  | .channel 1 => some (.channel 2)
  | .channel 2 => some (.channel 3)
  | .channel 3 => some .crc
  | .crc => none

/-- The header is that of a format 1 image: format 1, length 539 (R165, 12.6). -/
def headerUsable (bs : List Byte) : Bool :=
  bs.length == 3 && beNat (bs.take 1) == 1 && beNat ((bs.drop 1).take 2) == imageLength

/-- The number in k bytes at an offset of a block. -/
def field (bs : List Byte) (offset k : Nat) : Nat := beNat ((bs.drop offset).take k)

/-- A value within its range. -/
def within (lo hi n : Nat) : Bool := decide (lo ≤ n) && decide (n ≤ hi)

/-! ### Station and group blocks -/

/-- The fields of a station block (12.6). -/
def readStation (bs : List Byte) : StationConfig where
  number := field bs 0 1
  weight := field bs 1 1
  reserveShare := field bs 2 2
  announcePeriod := field bs 4 1
  silenceLimit := field bs 5 1
  litresPerPulse := field bs 6 2
  idleTime := field bs 8 2
  settleTime := field bs 10 1
  reportInterval := field bs 11 2
  packingCount := field bs 13 1
  analyzerTimeout := field bs 14 2
  linkThreshold := field bs 16 1
  announceThreshold := field bs 17 1

/-- Every field of the station block lies in its range (12.6, R166). -/
def StationConfig.valid (c : StationConfig) : Bool :=
  within 0 31 c.number && within 1 15 c.weight && within 0 1000 c.reserveShare
    && within 1 8 c.announcePeriod && within 3 20 c.silenceLimit && within 1 10000 c.litresPerPulse
    && within 10 3600 c.idleTime && within 1 60 c.settleTime && within 10 3600 c.reportInterval
    && within 1 3 c.packingCount && within 5 600 c.analyzerTimeout && within 0 100 c.linkThreshold
    && within 0 100 c.announceThreshold

/-- The fields of a group block (12.6). -/
def readGroup (bs : List Byte) : GroupConfig := ⟨field bs 0 4, field bs 4 4⟩

/-- The group block lies in its range, its fallback at most its maximum (12.6, R71, R166). -/
def GroupConfig.valid (c : GroupConfig) : Bool :=
  within 0 16000000 c.maxCapacity && decide (c.fallback ≤ c.maxCapacity)

/-! ### Channel blocks -/

/-- The kind that a code names (12.1.1). -/
def kindOf (code : Nat) : Option Kind :=
  match code with
  | 0 => some .none
  | 1 => some .coagulant
  | 2 => some .chlorine
  | _ => none

/-- The analyzer field: 0-7, or 255 for none (12.6). The outer `none` is a value out of range. -/
def analyzerOf (code : Nat) : Option (Option (Fin 8)) :=
  if code = 255 then some none else (eightOf code).map some

/-- A profile of a kind: the fields of the other kind are not read (R15, R166). -/
def readProfile (kind : Kind) (bs : List Byte) : Profile :=
  match kind with
  | .coagulant => ⟨field bs 0 2, field bs 2 2, field bs 4 2, 0, 0⟩
  | .chlorine => ⟨0, 0, 0, field bs 6 2, field bs 8 2⟩
  | .none => Profile.zero

/-- The ranges of a profile (R15), and on a chlorine channel E0 at most the native ceiling (R15, R166). -/
def Profile.valid (kind : Kind) (native : Nat) (p : Profile) : Bool :=
  match kind with
  | .coagulant => within 0 20000 p.b && within 0 10000 p.k && within 0 2000 p.s
  | .chlorine => within 0 1000 p.rt && within 0 20000 p.e0 && decide (p.e0 ≤ native)
  | .none => true

/-- A field that only a chlorine channel reads (R166). -/
def chlorineField (kind : Kind) (n : Nat) : Nat := if kind = .chlorine then n else 0

/-- The fields of a configured channel's block (12.6). -/
def readConfigured (kind : Kind) (group : Fin 4) (analyzer : Option (Fin 8)) (bs : List Byte) :
    ChannelConfig where
  kind := kind
  group := group
  analyzer := analyzer
  vs := field bs 3 4
  sp := field bs 7 2
  tmin := field bs 9 2
  confirmWindow := field bs 11 2
  missLimit := field bs 13 1
  nativeCeiling := field bs 14 2
  volume := field bs 16 4
  historyStep := chlorineField kind (field bs 20 1)
  lowLimit := chlorineField kind (field bs 21 2)
  lowRecovery := chlorineField kind (field bs 23 2)
  highLimit := chlorineField kind (field bs 25 2)
  highRecovery := chlorineField kind (field bs 27 2)
  hhLimit := chlorineField kind (field bs 29 2)
  tL := chlorineField kind (field bs 31 2)
  tH := chlorineField kind (field bs 33 2)
  tHH := chlorineField kind (field bs 35 2)
  runOnTime := field bs 37 1
  feedThreshold := field bs 38 1
  shareThreshold := field bs 39 1
  samplesThreshold := field bs 40 1
  profiles := Eight.ofFn fun i => readProfile kind ((bs.drop (41 + 10 * i.val)).take 10)

/-- The fields that every configured channel reads lie in their ranges, with m_s and Mmax at least 1
(12.6, R23, R166). -/
def ChannelConfig.commonValid (c : ChannelConfig) : Bool :=
  within 100 100000 c.vs && within 1 2000 c.sp && within 100 60000 c.tmin
    && within 50 5000 c.confirmWindow && within 1 8 c.missLimit && within 1 20000 c.nativeCeiling
    && within 0 50000000 c.volume && within 0 60 c.runOnTime && within 0 100 c.feedThreshold
    && within 0 100 c.shareThreshold && within 0 100 c.samplesThreshold
    && decide (1 ≤ c.strokeMass) && decide (1 ≤ c.feederCapacity)
    && c.profiles.toList.all (Profile.valid c.kind c.nativeCeiling)

/-- The fields that only a chlorine channel reads: ranges and the order of the residual levels (R113,
R166). -/
def ChannelConfig.chlorineValid (c : ChannelConfig) : Bool :=
  within 1 100 c.historyStep && within 0 1000 c.lowLimit && within 0 1000 c.lowRecovery
    && within 0 1000 c.highLimit && within 0 1000 c.highRecovery && within 0 1000 c.hhLimit
    && within 0 600 c.tL && within 0 600 c.tH && within 0 600 c.tHH
    && decide (c.lowLimit < c.lowRecovery) && decide (c.highRecovery < c.highLimit)
    && decide (c.highLimit < c.hhLimit) && decide (c.lowLimit < c.highLimit)

/-- A channel block passes its checks (R166). Of a NONE block only the kind is read. -/
def ChannelConfig.valid (c : ChannelConfig) : Bool :=
  match c.kind with
  | .none => true
  | .coagulant => c.commonValid
  | .chlorine => c.commonValid && c.chlorineValid

/-- A channel block read; none when its kind, group or analyzer code is out of range (R166). -/
def readChannel (bs : List Byte) : Option ChannelConfig :=
  match kindOf (field bs 0 1) with
  | none => none
  | some .none => some ChannelConfig.unconfigured
  | some kind =>
    match fourOf (field bs 1 1), analyzerOf (field bs 2 1) with
    | some g, some a => some (readConfigured kind g a bs)
    | some _, none => none
    | none, _ => none

/-! ### The whole image -/

/-- Every checked field and cross-field condition of an image holds (R166). -/
def Image.valid (im : Image) : Bool :=
  im.station.valid && im.groups.toList.all GroupConfig.valid
    && im.channels.toList.all ChannelConfig.valid

/-- Where a group block begins: after the header and the station block (12.6). -/
def groupOffset (g : Nat) : Nat := 21 + 8 * g

/-- Where a channel block begins (12.6). -/
def channelOffset (k : Nat) : Nat := 53 + 121 * k

/-- The stored CRC matches the CRC over every byte before it (R166). -/
def crcMatches (bs : List Byte) : Bool :=
  beNat (bs.drop (imageLength - 2)) == (crc16 (bs.take (imageLength - 2))).toNat

/-- The configured values of the bytes of an image that passes every check, and nothing otherwise
(R166). -/
def checkImage (bs : List Byte) : Option Image :=
  if bs.length = imageLength ∧ crcMatches bs = true then
    let block := fun k => (bs.drop (channelOffset k)).take 121
    match readChannel (block 0), readChannel (block 1), readChannel (block 2), readChannel (block 3) with
    | some c0, some c1, some c2, some c3 =>
      let im : Image :=
        { station := readStation ((bs.drop 3).take 18)
          groups := Four.ofFn fun g => readGroup ((bs.drop (groupOffset g.val)).take 8)
          channels := ⟨c0, c1, c2, c3⟩ }
      if im.valid then some im else none
    | _, _, _, _ => none
  else none

end Sys2Proof.Machine
end

