-- ==== Sys2Proof/Machine/Startup.lean ====
section
/-! DEFINITION. The Configuration Loader (Chapter 11): PIN_RESET, RESET_N_RISE, READ_TRANSACTION,
TRANSACTION_TIMEOUT, RETRY_WAIT; entry into HALTED and entry into service. -/

namespace Sys2Proof.Machine

/-! ### Health thresholds -/

/-- An attribute with its threshold set (R153). -/
def Attr.withThreshold (a : Attr) (t : Nat) : Attr := { a with threshold := t }

/-- The health table with the thresholds of a configuration; 0 for a channel of kind NONE (R153). DESIGN CHOICE
(assumption 26): R153 has a channel of kind NONE keep the reset values, R145 has a restart keep worst values and raw
counts; a channel that the image of a restart turns to NONE keeps the worst values and raw counts it had. -/
def HealthTable.configure (h : HealthTable) (im : Image) : HealthTable where
  channels := Four.ofFn fun k =>
    let c := h.channels.get k
    let cc := im.channel k
    ⟨c.feed.withThreshold cc.feedThreshold, c.share.withThreshold cc.shareThreshold,
      c.samples.withThreshold cc.samplesThreshold⟩
  link := h.link.withThreshold im.station.linkThreshold
  announce := h.announce.withThreshold im.station.announceThreshold

/-- The health table with no configured value (R166: a failed image leaves no value in any block). -/
def HealthTable.unconfigure (h : HealthTable) : HealthTable where
  channels := Four.ofFn fun k =>
    let c := h.channels.get k
    ⟨c.feed.withThreshold 0, c.share.withThreshold 0, c.samples.withThreshold 0⟩
  link := h.link.withThreshold 0
  announce := h.announce.withThreshold 0

/-! ### HALTED (R167) -/

/-- A channel's drive inhibit asserted (R106). -/
def Channel.inhibit (c : Channel) : Channel := { c with feeder := { c.feeder with inh := true } }

/-- Entry into HALTED: every inhibit and FAULT asserted, no configured value left; lockout records, kept
locks, health worst values, raw counts and the sequence counter are held (R166, R167). -/
def State.halt (s : State) : State :=
  { s with
    stn := .halted
    config := none
    loader := Loader.held
    channels := Four.ofFn fun k => (s.channel k).inhibit
    recs := { s.recs with health := s.recs.health.unconfigure }
    faultOut := true }

/-! ### Entry into service (R168) -/

/-- The first period of a channel's dose-update timer: 500 + 125 k ms (R24). -/
def firstDosePeriod (k : Fin 4) : Nat := 500 + 125 * k.val

/-- The Dose Engine of a configured channel at the start of service (R22, R24, R168). -/
def loadedDose (cc : ChannelConfig) (selector : Fin 8) (k : Fin 4) : DoseEngine :=
  { DoseEngine.held with
    activeIndex := selector
    cw := cc.nativeCeiling
    eest := if cc.kind = .chlorine then (cc.profile selector).e0 else 0
    timer := startMs (firstDosePeriod k) }

/-- A kept HIGH-HIGH RESIDUAL that no sample of the new service could release: tHH is 0 s or no analyzer is
mapped (R130). -/
def ChannelConfig.cannotRelease (cc : ChannelConfig) : Bool :=
  cc.kind == .chlorine && (cc.tHH == 0 || cc.analyzer.isNone)

/-- A Channel Supervisor at the start of service: the kept lock conditions where the kind is unchanged,
everything else CLEAR and stopped, the lockout record kept (R110, R130). -/
def Supervisor.loaded (p : Supervisor) (cc : ChannelConfig) (sameKind : Bool) : Supervisor :=
  { Supervisor.held with
    highHigh := if sameKind && !cc.cannotRelease then p.highHigh else .clear
    runOn := if sameKind then p.runOn else .clear
    lockout := p.lockout }

/-- A channel at the start of service (R168 steps 2 to 5, R130): OFF for kind NONE, otherwise derived with
the idle flag clear, its inhibit following. -/
def Channel.loaded (c : Channel) (cc : ChannelConfig) (sameKind : Bool) (selector : Fin 8) (k : Fin 4) :
    Channel :=
  if cc.configured then
    let sup := c.sup.loaded cc sameKind
    let st := sup.derive false
    { state := st
      dose := loadedDose cc selector k
      feeder := { FeederDrive.held with inh := st == .locked }
      sup := sup
      iv := { Interval.zero with condActive := sup.anyActive } }
  else
    { Channel.held with
      feeder := { FeederDrive.held with inh := false }
      sup := { Supervisor.held with lockout := c.sup.lockout } }

/-- The kind of a channel is the same in the configuration held from before and in a new one (R130). -/
def State.sameKind (s : State) (im : Image) (k : Fin 4) : Bool :=
  s.config.any fun old => (old.channel k).kind == (im.channel k).kind

/-- The completion of a load (R168): configured values set, selector index taken from the lines, channel
states derived, inhibits and FAULT formed, JOIN entered, every timer of service started. -/
def State.enterService (s : State) (im : Image) : State :=
  let selector := lineIndex s.psel.1 s.psel.2.1 s.psel.2.2
  ({ s with
    stn := .join
    config := some im
    loader := Loader.held
    flow :=
      { s.flow with sampleTimer := startMs 1000, idleTimer := startS im.station.idleTime }
    selector := ⟨selector, none, none⟩
    intake :=
      { s.intake with
        records := Eight.all { AnalyzerRecord.held with timer := startS im.station.analyzerTimeout } }
    channels := Four.ofFn fun k =>
      (s.channel k).loaded (im.channel k) (s.sameKind im k) selector k
    peer := { s.peer with timer := startS im.station.announcePeriod }
    recs :=
      { s.recs with
        timer := startS im.station.reportInterval
        health := s.recs.health.configure im } } : State).formFault

/-! ### The read (R165) -/

/-- Limit of a transaction and wait before a retry, in ms (R165). -/
def transactionMs : Nat := 25

/-- The wait after a failed transaction, in ms (R165). -/
def retryMs : Nat := 5

/-- Attempts of one transaction (R165). -/
def attemptLimit : Nat := 4

/-- A failed attempt: retried after 5 ms, or the end of the load as unreadable at the fourth (R165,
R167). -/
def State.attemptFails (s : State) : State :=
  if attemptLimit ≤ s.loader.failures + 1 then s.halt
  else
    { s with
      loader :=
        { s.loader with
          phase := .waiting, failures := s.loader.failures + 1, timer := startMs retryMs } }

/-- A transaction that completed with the bytes of its part: an unusable header ends the load, the last
part brings the check of the image, any other part brings the next transaction (R165, R166). -/
def State.partRead (s : State) (data : List Byte) : State :=
  if s.loader.part = .header ∧ headerUsable data = false then s.halt
  else
    let bytes := s.loader.bytes ++ data
    match s.loader.part.next with
    | some p => { s with loader := ⟨.reading, p, 0, startMs transactionMs, bytes⟩ }
    | none =>
      match checkImage bytes with
      | some im => s.enterService im
      | none => s.halt

/-- PIN_RESET: RESET_N goes low (R165). -/
def execPinReset (s : State) : Host.Outcome State Fault Refusal := .next s.pinReset

/-- RESET_N_RISE: RESET_N rises and the read begins from the header (R165). A line already high does not
rise. -/
def execResetNRise (s : State) : Host.Outcome State Fault Refusal :=
  if s.resetN then .next s else .next { s with resetN := true, loader := Loader.begin }

/-- READ_TRANSACTION: the transaction in hand completes or fails (R165). A transaction reads exactly its
part, so bytes of another length are not its completion. -/
def execReadTransaction (r : ReadResult) (s : State) : Host.Outcome State Fault Refusal :=
  if s.loader.phase = .reading then
    match r with
    | .failed => .next s.attemptFails
    | .completed data =>
      if data.length = s.loader.part.size then .next (s.partRead data) else .next s
  else .next s

/-- TRANSACTION_TIMEOUT: the transaction in hand has not completed within 25 ms, a failed attempt (R165). -/
def execTransactionTimeout (s : State) : Host.Outcome State Fault Refusal :=
  if s.loader.phase = .reading ∧ s.loader.timer.due then .next s.attemptFails else .next s

/-- RETRY_WAIT: the 5 ms wait ends and the same transaction is attempted again (R165). -/
def execRetryWait (s : State) : Host.Outcome State Fault Refusal :=
  if s.loader.phase = .waiting ∧ s.loader.timer.due then
    .next { s with loader := { s.loader with phase := .reading, timer := startMs transactionMs } }
  else .next s

end Sys2Proof.Machine
end

