-- ==== Sys2Proof/Machine/Feeder.lean ====
section
/-! DEFINITION. The Feeder Drive (Chapter 6): stroke credit, the issue test, the outstanding-stroke list, and
the commands STROKE_INTERVAL_EXPIRY, CONFIRM, DEADLINE_EXPIRY, GRACE_DEADLINE_EXPIRY. -/

namespace Sys2Proof.Machine

/-- Most entries of the outstanding-stroke list (R96). -/
def strokeListCapacity : Nat := 8

/-- The issue test (R96). -/
def Channel.mayStroke (cc : ChannelConfig) (c : Channel) : Bool :=
  c.state == .dosing && decide (cc.strokeMass ≤ c.feeder.ac) && c.feeder.timer.isNone
    && decide (c.feeder.strokes.length < strokeListCapacity)

/-- One stroke issued (R96 steps 1 to 5). -/
def Channel.stroke (cc : ChannelConfig) (c : Channel) : Channel :=
  { c with
    feeder :=
      { c.feeder with
        ac := c.feeder.ac - cc.strokeMass
        timer := startMs cc.tmin
        strokes := c.feeder.strokes ++ [⟨.pending, cc.confirmWindow⟩]
        stk := c.feeder.stk + 1 }
    iv := { c.iv with issued := satAdd top16 c.iv.issued 1 } }

/-- The issue test, and the stroke when it passes (R96). -/
def Channel.issueTest (cc : ChannelConfig) (c : Channel) : Channel :=
  if c.mayStroke cc then c.stroke cc else c

/-- The cap of the stroke credit: 4 × m_s (R92). -/
def ChannelConfig.creditCap (cc : ChannelConfig) : Nat := 4 * cc.strokeMass

/-- Steps 1 and 2 of R94: the grant of one second poured into the credit, the excess over the cap dropped
and counted. -/
def Channel.credit (cc : ChannelConfig) (c : Channel) (gch : Nat) : Channel :=
  let sum := c.feeder.ac + gch
  { c with
    feeder := { c.feeder with ac := min cc.creditCap sum }
    iv := { c.iv with creditDropped := satAdd top32 c.iv.creditDropped (sum - cc.creditCap) } }

/-- STROKE_INTERVAL_EXPIRY: the stroke interval timer stops and the issue test is made (R97). -/
def execStrokeIntervalExpiry (k : Fin 4) (s : State) : Host.Outcome State Fault Refusal :=
  match s.service with
  | none => .next s
  | some im =>
    let c := s.channel k
    if (im.channel k).configured && c.feeder.timer.due then
      .next (s.setChannel k
        (Channel.issueTest (im.channel k) { c with feeder := { c.feeder with timer := none } }))
    else .next s

/-- A confirm in time (R100). -/
def Channel.confirmInTime (cc : ChannelConfig) (c : Channel) (rest : List Stroke) : Channel :=
  { c with
    feeder := { c.feeder with strokes := rest, misses := 0 }
    iv :=
      { c.iv with
        confirmed := satAdd top16 c.iv.confirmed 1
        confirmedMass := satAdd top32 c.iv.confirmedMass cc.strokeMass } }

/-- A late confirm (R100). -/
def Channel.confirmLate (c : Channel) (rest : List Stroke) : Channel :=
  { c with
    feeder := { c.feeder with strokes := rest }
    iv := { c.iv with late := satAdd top16 c.iv.late 1 } }

/-- The period of the quiet timer: the run-on time, 1 s when the run-on time is 0 s (R117). -/
def ChannelConfig.quietTime (cc : ChannelConfig) : Nat := if cc.runOnTime = 0 then 1 else cc.runOnTime

/-- RUN-ON judged at a run-on event (R117 step 2). -/
def Supervisor.judgeRunOn (cc : ChannelConfig) (p : Supervisor) : Supervisor :=
  match p.runOn with
  | .clear =>
    if cc.runOnTime = 0 then { p with runOn := .active }
    else { p with runOn := .alert, runOnTimer := startS cc.runOnTime }
  | .alert => { p with runOn := .active, runOnTimer := none }
  | .active => p

/-- A run-on event: the quiet timer restarts and RUN-ON is judged (R117 steps 1 and 2). -/
def Supervisor.runOnEvent (cc : ChannelConfig) (p : Supervisor) : Supervisor :=
  { p with quietTimer := startS cc.quietTime }.judgeRunOn cc

/-- An unexpected confirm: counted, and a run-on event (R100, R117). -/
def Channel.confirmUnexpected (cc : ChannelConfig) (c : Channel) : Channel :=
  { c with
    sup := c.sup.runOnEvent cc
    iv := { c.iv with unexpected := satAdd top16 c.iv.unexpected 1 } }

/-- CONFIRM: a rising edge on CNF, matched against the front of the list (R100). -/
def execConfirm (k : Fin 4) (s : State) : Host.Outcome State Fault Refusal :=
  match s.service with
  | none => .next s
  | some im =>
    let cc := im.channel k
    let c := s.channel k
    if cc.configured then
      match c.feeder.strokes with
      | ⟨.pending, _⟩ :: rest => .next (s.setChannel k (c.confirmInTime cc rest))
      | ⟨.missed, _⟩ :: rest => .next (s.setChannel k (c.confirmLate rest))
      | [] =>
        .next (s.settleChannel im k (c.confirmUnexpected cc) (some .runOnEvent)).settleRestart
    else .next s

/-- The first PENDING entry becomes MISSED, with its grace deadline (R99, R101). -/
def missFirst (window : Nat) : List Stroke → List Stroke
  | [] => []
  | e :: es =>
    match e.state with
    | .pending => ⟨.missed, window⟩ :: es
    | .missed => e :: missFirst window es

/-- A miss: the entry, the missed count, the consecutive-miss count holding at 255 (R101). -/
def Channel.miss (cc : ChannelConfig) (c : Channel) : Channel :=
  { c with
    feeder :=
      { c.feeder with
        strokes := missFirst cc.confirmWindow c.feeder.strokes
        misses := satAdd 255 c.feeder.misses 1 }
    iv := { c.iv with missed := satAdd top16 c.iv.missed 1 } }

/-- The first PENDING entry of a list has reached its deadline (R101). -/
def deadlineDue (es : List Stroke) : Bool :=
  (es.find? fun e => e.state == .pending).any fun e => e.deadline == 0

/-- DEADLINE_EXPIRY: the deadline of the first PENDING entry is reached (R101); the miss that brings the
count to the miss limit makes FEEDER FAULT ACTIVE (R119). -/
def execDeadlineExpiry (k : Fin 4) (s : State) : Host.Outcome State Fault Refusal :=
  match s.service with
  | none => .next s
  | some im =>
    let cc := im.channel k
    let c := s.channel k
    if cc.configured && deadlineDue c.feeder.strokes then
      let c' := c.miss cc
      if c'.feeder.misses = cc.missLimit then
        .next (s.settleChannel im k { c' with sup := { c'.sup with feederFault := .active } }
          (some .feederFaultEvent)).settleRestart
      else .next (s.setChannel k c')
    else .next s

/-- GRACE_DEADLINE_EXPIRY: the grace deadline of the front entry, MISSED, is reached (R102). -/
def execGraceDeadlineExpiry (k : Fin 4) (s : State) : Host.Outcome State Fault Refusal :=
  match s.service with
  | none => .next s
  | some im =>
    let c := s.channel k
    if (im.channel k).configured then
      match c.feeder.strokes with
      | ⟨.missed, 0⟩ :: rest =>
        .next (s.setChannel k { c with feeder := { c.feeder with strokes := rest } })
      | ⟨.missed, _ + 1⟩ :: _ => .next s
      | ⟨.pending, _⟩ :: _ => .next s
      | [] => .next s
    else .next s

end Sys2Proof.Machine
end

