-- ==== Sys2Proof/Machine/Share.lean ====
section
/-! DEFINITION. The Share Engine (Chapter 5) and the effective capacity it reads (4.5.2): reserve rule,
water-fill, split, grant record. -/

namespace Sys2Proof.Machine

/-! ### Effective capacity -/

/-- The capacities of the occupied slots of a group. -/
def GroupSlots.capacities (g : GroupSlots) : List Nat :=
  (g.slot0.toList ++ g.slot1.toList).map CapacitySlot.capacity

/-- The effective capacity C: the smallest capacity among the occupied slots, the fallback capacity when
there is none (R72). -/
def GroupSlots.effective (g : GroupSlots) (fallback : Nat) : Nat :=
  match g.capacities with
  | [] => fallback
  | c :: cs => cs.foldl min c

/-- The effective capacity of a group as it stands. -/
def State.capacityOf (s : State) (im : Image) (g : Fin 4) : Nat :=
  (s.peer.capacity.get g).effective (im.groups.get g).fallback

/-! ### Station demand -/

/-- The configured channels of the station on a group, ascending. -/
def Image.onGroup (im : Image) (g : Fin 4) : List (Fin 4) :=
  im.configured.filter fun k => (im.channel k).group == g

/-- The sum of the M′ of the station's configured channels on a group (R67, R77). -/
def State.stationDemand (s : State) (im : Image) (g : Fin 4) : Nat :=
  ((im.onGroup g).map fun k => (s.channel k).dose.mCap).sum

/-! ### The reserve rule -/

/-- The reserve of a group: floor(C × g_res / 1000) (R79). -/
def reserve (capacity share : Nat) : Nat := capacity * share / 1000

/-! ### The water-fill -/

/-- A participant of the water-fill (R80). -/
structure Participant where
  number : Nat
  weight : Nat
  demand : Nat
deriving DecidableEq, Repr

/-- Participant a stands before participant b: demand per unit of weight by cross products, then the lower
station number (R82). -/
def Participant.before (a b : Participant) : Bool :=
  a.demand * b.weight < b.demand * a.weight
    || (a.demand * b.weight == b.demand * a.weight && a.number < b.number)

/-- A participant put in its place in an ordered list. -/
def insertParticipant (p : Participant) : List Participant → List Participant
  | [] => [p]
  | q :: qs => if p.before q then p :: q :: qs else q :: insertParticipant p qs

/-- The participants in the order of R82. -/
def orderParticipants : List Participant → List Participant
  | [] => []
  | p :: ps => insertParticipant p (orderParticipants ps)

/-- The sum of some participants' demands. -/
def totalDemand (ps : List Participant) : Nat := (ps.map Participant.demand).sum

/-- The sum of some participants' weights. -/
def totalWeight (ps : List Participant) : Nat := (ps.map Participant.weight).sum

/-- floor(R × w / W): a participant's weighted fair share of what remains (R83). -/
def fairShare (remaining weight weights : Nat) : Nat := remaining * weight / weights

/-- The walk over the ordered participants, giving each its grant under its station number (R83). -/
def walk (remaining weights : Nat) : List Participant → List (Nat × Nat)
  | [] => []
  | p :: ps =>
    if p.demand ≤ fairShare remaining p.weight weights then
      (p.number, p.demand) :: walk (remaining - p.demand) (weights - p.weight) ps
    else
      (p :: ps).map fun q => (q.number, fairShare remaining q.weight weights)

/-- The grants of all participants at a capacity, when the walk takes place. -/
def fill (capacity : Nat) (ps : List Participant) : List (Nat × Nat) :=
  walk capacity (totalWeight ps) (orderParticipants ps)

/-- The grant under a station number. -/
def grantUnder (number : Nat) (grants : List (Nat × Nat)) : Nat :=
  ((grants.find? fun g => g.1 == number).map Prod.snd).getD 0

/-- The station grant by the water-fill (R81 to R84). -/
def waterFill (capacity : Nat) (own : Participant) (peers : List Participant) : Nat :=
  if own.demand = 0 then 0
  else if totalDemand (own :: peers) ≤ capacity then own.demand
  else grantUnder own.number (fill capacity (own :: peers))

/-- The peers that take part in the division of a group: those with a demand above 0 on it (R80). -/
def PeerView.participants (p : PeerView) (g : Fin 4) : List Participant :=
  (p.table.filter fun e => decide (0 < e.demand.get g)).map fun e => ⟨e.number, e.weight, e.demand.get g⟩

/-! ### The grant -/

/-- The station grant on a group: water-fill in RUN, reserve rule otherwise (R78). -/
def State.stationGrant (s : State) (im : Image) (g : Fin 4) : Nat :=
  let dOwn := s.stationDemand im g
  let capacity := s.capacityOf im g
  if s.stn = .run then
    waterFill capacity ⟨im.station.number, im.station.weight, dOwn⟩ (s.peer.participants g)
  else min dOwn (reserve capacity im.station.reserveShare)

/-- The share of a channel with capped demand M′ in the station grant (R85). -/
def split (gStation dOwn mCap : Nat) : Nat :=
  if dOwn ≤ gStation then mCap else gStation * mCap / dOwn

/-- The grant of a channel, its own fresh M′ already held (R76 steps 1 to 4). -/
def State.channelGrant (s : State) (im : Image) (k : Fin 4) : Nat :=
  let g := (im.channel k).group
  split (s.stationGrant im g) (s.stationDemand im g) (s.channel k).dose.mCap

/-- The grant record of a group takes the figures of the computation (R76 step 5, R88). -/
def State.recordGrant (s : State) (im : Image) (g : Fin 4) : State :=
  { s with share := s.share.set g ⟨s.stationDemand im g, s.stationGrant im g⟩ }

end Sys2Proof.Machine
end

