-- ==== Sys2Proof/Machine/Dose.lean ====
section
/-! DEFINITION. The Dose Engine and its volume queue at the dose update (Chapters 2 and 3): LINE_CHANGE,
SETTLE_TIMER_EXPIRY, DOSE_UPDATE, and the change of the active profile index (R19, R20). -/

namespace Sys2Proof.Machine

/-! ### The active profile index -/

/-- A changed active profile index clears the target override and, on a chlorine channel, sets Eest to the
E0 of the new profile (R20). -/
def DoseEngine.adopt (d : DoseEngine) (cc : ChannelConfig) (i : Fin 8) : DoseEngine :=
  { d with
    activeIndex := i
    targetOverride := none
    eest := if cc.kind == .chlorine then (cc.profile i).e0 else d.eest }

/-- The active profile index formed again: the override, else the selector index; R20 applies when it
changes (R19). -/
def DoseEngine.formIndex (d : DoseEngine) (cc : ChannelConfig) (selector : Fin 8) : DoseEngine :=
  let i := d.profileOverride.getD selector
  if i = d.activeIndex then d else d.adopt cc i

/-! ### The selector -/

/-- The selector at a line change: settling towards an index that differs from its own, given up when the
lines show its own (R16). -/
def Selector.lineChange (x : Selector) (i : Fin 8) (settleTime : Nat) : Selector :=
  if i = x.index then { x with candidate := none, timer := none }
  else { x with candidate := some i, timer := startS settleTime }

/-- LINE_CHANGE: the profile-select lines take new levels (R16). In LOAD and HALTED only the levels of the
lines change, which the load will read (R168). Levels equal to the present ones are no line change. -/
def execLineChange (p0 p1 p2 : Bool) (s : State) : Host.Outcome State Fault Refusal :=
  if s.psel = (p0, p1, p2) then .next s
  else
    let s' := { s with psel := (p0, p1, p2) }
    match s.service with
    | none => .next s'
    | some im =>
      .next { s' with
        selector := s.selector.lineChange (lineIndex p0 p1 p2) im.station.settleTime }

/-- A channel at the adoption of a selector index: followed unless it has a profile override (R17). -/
def Channel.adoptSelector (cc : ChannelConfig) (i : Fin 8) (c : Channel) : Channel :=
  { c with dose := c.dose.formIndex cc i }

/-- SETTLE_TIMER_EXPIRY: the settle timer stands at its expiry, and the candidate becomes the selector index
(R17). After a line change that has restarted or abandoned the settling it does not happen (R18). -/
def execSettleTimerExpiry (s : State) : Host.Outcome State Fault Refusal :=
  match s.service, s.selector.candidate with
  | some im, some i =>
    if s.selector.timer.due then
      .next (({ s with selector := ⟨i, none, none⟩ } : State).forChannels im.configured fun k s =>
        s.onChannel k (Channel.adoptSelector (im.channel k) i))
    else .next s
  | _, _ => .next s

/-! ### Volume queues at the dose update -/

/-- Release: every entry due at or below V leaves the front, and Tdp takes the last one (R44). -/
def DoseEngine.releaseDue (d : DoseEngine) (v : Nat) : DoseEngine :=
  let due := d.pipeline.takeWhile fun e => decide (e.due ≤ v)
  match due.getLast? with
  | none => d
  | some e =>
    { d with pipeline := d.pipeline.drop due.length, tdp := some e.turbidity }

/-- Pruning: the front entry leaves while the second entry's mark is at most V − lag (R50). -/
def pruneHistory (v lag : Nat) : List HistEntry → List HistEntry
  | [] => []
  | [a] => [a]
  | a :: b :: rest =>
    if lag ≤ v ∧ b.mark ≤ v - lag then pruneHistory v lag (b :: rest) else a :: b :: rest

/-- Most entries of the dose history (R47). -/
def historyCapacity : Nat := 8

/-- The magnitude of a difference (R49). -/
def absDiff (a b : Nat) : Nat := (a - b) + (b - a)

/-- A delivered dose entered into the history, by append, replace or merge (R49). -/
def enterDose (v dd step : Nat) (h : List HistEntry) : List HistEntry :=
  match h.getLast? with
  | none => [⟨v, dd, false⟩]
  | some newest =>
    if absDiff dd newest.dose < step then h
    else if v = newest.mark then h.dropLast ++ [{ newest with dose := dd }]
    else if h.length < historyCapacity then h ++ [⟨v, dd, false⟩]
    else h.dropLast ++ [{ newest with dose := dd, merged := true }]

/-- Step 2 of the dose update: the volume queue is brought up to V (R25). -/
def DoseEngine.bringUp (d : DoseEngine) (cc : ChannelConfig) (v : Nat) : DoseEngine :=
  match cc.kind with
  | .coagulant => d.releaseDue v
  | .chlorine => { d with history := pruneHistory v cc.volume d.history }
  | .none => d

/-! ### Effective dose, demand, capped demand -/

/-- Deff of a coagulant channel (R26). -/
def coagulantDose (p : Profile) (target : Option Nat) (cw : Nat) (tdp : Option Nat) : Nat :=
  let excess := tdp.getD p.k - p.k
  min (target.getD p.b + excess * p.s / 10) cw

/-- Deff of a chlorine channel from its clamped Eest (R27). -/
def chlorineDose (p : Profile) (target : Option Nat) (cw eest : Nat) : Nat :=
  min (target.getD p.rt + eest) cw

/-- Step 3 of the dose update: Eest above Cw is set to Cw, and Deff is computed (R26, R27). -/
def DoseEngine.computeDose (d : DoseEngine) (cc : ChannelConfig) : DoseEngine :=
  let p := cc.profile d.activeIndex
  match cc.kind with
  | .coagulant => { d with deff := coagulantDose p d.targetOverride d.cw d.tdp }
  | .chlorine =>
    let eest := min d.eest d.cw
    { d with eest := eest, deff := chlorineDose p d.targetOverride d.cw eest }
  | .none => d

/-- M = floor(Q × Deff / 100) (R28). -/
def demandOf (q deff : Nat) : Nat := q * deff / 100

/-- Step 4 of the dose update: M, then M′ and FEED LIMIT by the channel state (R28, R29). -/
def DoseEngine.computeDemand (d : DoseEngine) (cc : ChannelConfig) (q : Nat) (st : ChannelState) :
    DoseEngine :=
  let m := demandOf q d.deff
  if st = .dosing then
    { d with m := m, mCap := min m cc.feederCapacity, feedLimit := decide (cc.feederCapacity < m) }
  else { d with m := m, mCap := 0, feedLimit := false }

/-- Steps 1 to 4 of the dose update (R25), and the restart of its timer (R24). -/
def Channel.updateDose (cc : ChannelConfig) (q v : Nat) (c : Channel) : Channel :=
  { c with
    dose :=
      { ((c.dose.bringUp cc v).computeDose cc).computeDemand cc q c.state with
        timer := startMs 1000 } }

/-- The delivered dose floor(Gch × 100 / Q) (R48). -/
def deliveredDose (gch q : Nat) : Nat := gch * 100 / q

/-- Step 7: on a chlorine channel with Q above 0 the delivered dose is entered (R48, R49). -/
def DoseEngine.recordDelivered (d : DoseEngine) (cc : ChannelConfig) (q v : Nat) : DoseEngine :=
  if cc.kind = .chlorine ∧ 0 < q then
    { d with history := enterDose v (deliveredDose d.gch q) cc.historyStep d.history }
  else d

/-- Step 8: the figures of the update are handed to the Record Builder (R31, R146). -/
def Interval.handOver (i : Interval) (d : DoseEngine) : Interval :=
  { i with
    granted := satAdd top48 i.granted d.gch
    mSum := satAdd top48 i.mSum d.mCap
    gSum := satAdd top48 i.gSum d.gch
    shortfall := satAdd top32 i.shortfall (d.m - d.gch)
    feedLimitSeen := i.feedLimitSeen || d.feedLimit }

/-- Steps 5 to 8 on the channel, with the grant that the Share Engine returned (R25). -/
def Channel.takeGrant (cc : ChannelConfig) (q v gch : Nat) (c : Channel) : Channel :=
  let c := { c with dose := { c.dose with gch := gch } }
  let c := (c.credit cc gch).issueTest cc
  let dose := c.dose.recordDelivered cc q v
  { c with dose := dose, iv := c.iv.handOver dose }

/-- DOSE_UPDATE: a channel's dose-update timer expires (R25). -/
def execDoseUpdate (k : Fin 4) (s : State) : Host.Outcome State Fault Refusal :=
  match s.service with
  | none => .next s
  | some im =>
    let cc := im.channel k
    if cc.configured && (s.channel k).dose.timer.due then
      let s := s.onChannel k (Channel.updateDose cc s.flow.q s.flow.v)
      let gch := s.channelGrant im k
      let s := s.recordGrant im cc.group
      .next (s.onChannel k (Channel.takeGrant cc s.flow.q s.flow.v gch))
    else .next s

end Sys2Proof.Machine
end

