-- ==== Sys2Proof/Machine/Intake.lean ====
section
/-! DEFINITION. The Sample Intake and what a sample does on a channel (Chapter 3, 7.2.2): RECEIVED_BYTE_ON_ANZ,
ANALYZER_MESSAGE, MESSAGE_GAP, FRESHNESS_TIMER_EXPIRY. -/

namespace Sys2Proof.Machine

/-! ### Counts of samples (R55) -/

/-- One sample received, good or not (R55). -/
def Interval.countSample (i : Interval) (good : Bool) : Interval :=
  { i with
    received := satAdd top16 i.received 1
    good := if good then satAdd top16 i.good 1 else i.good }

/-- One sample received and not good on each channel mapped to an analyzer (R35, R36). -/
def State.countNotGood (s : State) (im : Image) (a : Fin 8) : State :=
  s.forChannels (im.mapped a) fun k s =>
    s.onChannel k fun c => { c with iv := c.iv.countSample false }

/-- A rejected message is counted against the analyzer number it carries, when that is 0-7 (R35). -/
def State.countRejected (s : State) (im : Image) (number : Option Byte) : State :=
  match number.bind fun b => eightOf b.toNat with
  | some a => s.countNotGood im a
  | none => s

/-! ### Turbidity pipeline -/

/-- Most entries of the turbidity pipeline (R41). -/
def pipelineCapacity : Nat := 16

/-- A due volume: V plus the lead volume, stopping at 2^48 − 1 (R42). -/
def dueVolume (v lead : Nat) : Nat := min top48 (v + lead)

/-- Overflow: the front entry of a full pipeline becomes Tdp at once (R43). -/
def DoseEngine.makeRoom (d : DoseEngine) : DoseEngine :=
  match d.pipeline with
  | [] => d
  | e :: es =>
    if pipelineCapacity ≤ d.pipeline.length then { d with pipeline := es, tdp := some e.turbidity } else d

/-- A GOOD turbidity sample enters the pipeline (R42, R43). -/
def DoseEngine.appendTurbidity (d : DoseEngine) (v lead turbidity : Nat) : DoseEngine :=
  let d := d.makeRoom
  { d with pipeline := d.pipeline ++ [⟨dueVolume v lead, turbidity⟩] }

/-! ### Dose history lookup -/

/-- The covering entry: the last one whose mark is at most Va (R51). -/
def covering (va : Nat) (h : List HistEntry) : Option HistEntry :=
  (h.filter fun e => decide (e.mark ≤ va)).getLast?

/-- The covering dose of a usable sample; none when the sample is unusable (R51). -/
def coveringDose (v lag : Nat) (h : List HistEntry) : Option Nat :=
  if v < lag then none
  else
    match covering (v - lag) h with
    | none => none
    | some e => if e.merged then none else some e.dose

/-- Eest moved a quarter of the way towards the consumed dose, truncated toward zero, within 0 to Cw
(R52). -/
def correctEstimate (eest cw covering residual : Nat) : Nat :=
  let delta : Int := ((covering - residual : Nat) : Int) - (eest : Int)
  min cw ((eest : Int) + delta.tdiv 4).toNat

/-- The lookup of a GOOD residual on a chlorine channel in DOSING: prune, find the covering dose, correct
Eest or count the sample unusable (R51, R52, R55). -/
def Channel.lookup (cc : ChannelConfig) (v residual : Nat) (c : Channel) : Channel :=
  let h := pruneHistory v cc.volume c.dose.history
  match coveringDose v cc.volume h with
  | some dose =>
    { c with
      dose :=
        { c.dose with
          history := h
          eest := correctEstimate c.dose.eest c.dose.cw dose residual } }
  | none =>
    { c with
      dose := { c.dose with history := h }
      iv := { c.iv with unusable := satAdd top16 c.iv.unusable 1 } }

/-! ### Residual conditions (R114) -/

/-- One residual condition and its timer judged against a sample: `beyond` says the sample lies at or
beyond the alert level, `back` that it meets the recovery level. An alert time of 0 s disables the
condition (R113, R114). -/
def judgeCondition (time : Nat) (beyond back : Bool) (c : Cond) (t : Timer) : Cond × Timer :=
  if time = 0 then (c, t)
  else
    match c with
    | .clear => if beyond then (.alert, startS time) else (.clear, t)
    | .alert => if beyond then (.alert, t) else (.clear, none)
    | .active => if back then (.clear, t) else (.active, t)

/-- The three residual conditions judged independently, after the last residual has taken the sample's
value (R114 steps 1 and 2). HIGH-HIGH RESIDUAL never recovers by a sample. -/
def Supervisor.judgeResidual (cc : ChannelConfig) (p : Supervisor) (r : Nat) : Supervisor :=
  let low := judgeCondition cc.tL (decide (r ≤ cc.lowLimit)) (decide (cc.lowRecovery ≤ r)) p.low p.tL
  let high := judgeCondition cc.tH (decide (cc.highLimit ≤ r)) (decide (r ≤ cc.highRecovery)) p.high p.tH
  let hh := judgeCondition cc.tHH (decide (cc.hhLimit ≤ r)) false p.highHigh p.tHH
  { p with
    lastResidual := some r
    low := low.1
    tL := low.2
    high := high.1
    tH := high.2
    highHigh := hh.1
    tHH := hh.2 }

/-- The minimum and maximum residual of the interval (R146). -/
def Interval.seeResidual (i : Interval) (r : Nat) : Interval :=
  { i with
    minResidual := some (match i.minResidual with | none => r | some m => min m r)
    maxResidual := some (match i.maxResidual with | none => r | some m => max m r) }

/-! ### A sample offered to a channel (R38) -/

/-- A residual on a chlorine channel: the lookup when GOOD and DOSING, then the conditions and the
interval's minimum and maximum (R38, R53). -/
def Channel.takeResidual (cc : ChannelConfig) (v : Nat) (x : Reading) (c : Channel) : Channel :=
  let c := if x.quality = .good ∧ c.state = .dosing then c.lookup cc v x.value else c
  { c with sup := c.sup.judgeResidual cc x.value, iv := c.iv.seeResidual x.value }

/-- A turbidity on a coagulant channel: entered when GOOD (R38). -/
def Channel.takeTurbidity (cc : ChannelConfig) (v : Nat) (x : Reading) (c : Channel) : Channel :=
  if x.quality = .good then { c with dose := c.dose.appendTurbidity v cc.volume x.value } else c

/-- A sample offered to a configured channel, counted, and acted on by measurand, quality and kind
(R38, R55). DESIGN CHOICE (assumption 25): the opening of R38 counts a sample as good in the first row of its table
only, a GOOD turbidity on a coagulant channel; the text after that table and the table of R55 count a GOOD residual
on a chlorine channel as good too, and they are followed. -/
def Channel.offer (cc : ChannelConfig) (v : Nat) (x : Reading) (c : Channel) : Channel :=
  let ofKind := cc.kind.measures x.measurand
  let c := { c with iv := c.iv.countSample (ofKind && x.quality == .good) }
  if ofKind then
    match x.measurand with
    | .residual => c.takeResidual cc v x
    | .turbidity => c.takeTurbidity cc v x
  else c

/-- The fresh report that ends a spell of staleness (R37 step 3, R120). -/
def Channel.hearFresh (wasStale : Bool) (c : Channel) : Channel :=
  if wasStale then { c with sup := { c.sup with stale := .clear } } else c

/-- An accepted sample: the record takes it, its freshness timer restarts, staleness ends, and each mapped
channel is offered it in ascending order (R37). One CHANNEL ALARM at most leaves each channel, its cause
the fresh report where there was one (R120). -/
def State.acceptSample (s : State) (im : Image) (a : Fin 8) (x : Reading) : State :=
  let wasStale := !(s.intake.records.get a).fresh
  let record : AnalyzerRecord := ⟨some x, true, startS im.station.analyzerTimeout⟩
  let s := { s with intake := { s.intake with records := s.intake.records.set a record } }
  s.forChannels (im.mapped a) fun k s =>
    s.settleChannel im k (((s.channel k).hearFresh wasStale).offer (im.channel k) s.flow.v x)
      (some (if wasStale then .analyzerFresh else .residualSample))

/-- A well-formed message judged by quality and value (R36). -/
def State.judgeSample (s : State) (im : Image) (a : Fin 8) (m : Measurand) (q : SentQuality)
    (value : Nat) : State :=
  match q with
  | .fault => s.countNotGood im a
  | .good =>
    if m.top < value then s.acceptSample im a ⟨m.top, m, .suspect⟩
    else s.acceptSample im a ⟨value, m, .good⟩
  | .suspect => s.acceptSample im a ⟨min value m.top, m, .suspect⟩

/-- A message that has arrived whole: its form checked, then rejected or judged (R35, R36). -/
def State.takeMessage (s : State) (im : Image) (msg : SampleMessage) : State :=
  match eightOf msg.analyzer.toNat, measurandOf msg.measurand, qualityOf msg.quality with
  | some a, some m, some q =>
    if msg.start = startMark ∧ checkHolds msg then s.judgeSample im a m q msg.value.toNat
    else s.countNotGood im a
  | some a, _, _ => s.countNotGood im a
  | none, _, _ => s

/-- No message is open on the analyzer line (R172). -/
def SampleIntake.close (i : SampleIntake) : SampleIntake := { i with buffer := [], gapTimer := none }

/-- ANALYZER_MESSAGE: a sample message arrives whole (R35 to R38). After its arrival no message is open. -/
def execAnalyzerMessage (m : SampleMessage) (s : State) : Host.Outcome State Fault Refusal :=
  match s.service with
  | none => .next s
  | some im =>
    .next (({ s with intake := s.intake.close } : State).takeMessage im m).settleRestart

/-- The gap that ends an open message: 10 ms (R172). -/
def messageGapMs : Nat := 10

/-- A byte taken into the open message, or opening one (R172). -/
def SampleIntake.push (i : SampleIntake) (b : Byte) : SampleIntake :=
  { i with buffer := i.buffer ++ [b], gapTimer := startMs messageGapMs }

/-- RECEIVED_BYTE_ON_ANZ (R172): with no message open, 0xA5 opens one and any other byte is discarded; in
an open message the byte is taken by position, and the seventh byte is the message's arrival. -/
def execReceivedByteOnAnz (b : Byte) (s : State) : Host.Outcome State Fault Refusal :=
  match s.service with
  | none => .next s
  | some im =>
    if s.intake.buffer.isEmpty then
      if b = startMark then .next { s with intake := s.intake.push b } else .next s
    else if s.intake.buffer.length < 6 then .next { s with intake := s.intake.push b }
    else
      let m := messageOf (s.intake.buffer ++ [b])
      .next (({ s with intake := s.intake.close } : State).takeMessage im m).settleRestart

/-- MESSAGE_GAP: 10 ms pass with a message open; it is rejected as ended early, counted against its
analyzer number if byte 1 was received, and closed (R172, R35). -/
def execMessageGap (s : State) : Host.Outcome State Fault Refusal :=
  match s.service with
  | none => .next s
  | some im =>
    if !s.intake.buffer.isEmpty && s.intake.gapTimer.due then
      .next (({ s with intake := s.intake.close } : State).countRejected im s.intake.buffer[1]?)
    else .next s

/-- An analyzer record at the expiry of its freshness timer (R39). -/
def AnalyzerRecord.goStale (r : AnalyzerRecord) : AnalyzerRecord := { r with fresh := false, timer := none }

/-- FRESHNESS_TIMER_EXPIRY: the record becomes STALE, and each mapped channel sets ANALYZER STALE
(R39, R120). After a sample that has restarted the timer it does not happen (R40). DESIGN CHOICE (assumption 14):
the channels are told in ascending order. -/
def execFreshnessTimerExpiry (a : Fin 8) (s : State) : Host.Outcome State Fault Refusal :=
  match s.service with
  | none => .next s
  | some im =>
    let r := s.intake.records.get a
    if r.timer.due then
      let s := { s with intake := { s.intake with records := s.intake.records.set a r.goStale } }
      .next (s.forChannels (im.mapped a) fun k s =>
        s.settleChannel im k
          { s.channel k with sup := { (s.channel k).sup with stale := .active } }
          (some .analyzerStale)).settleRestart
    else .next s

end Sys2Proof.Machine
end

