-- ==== Sys2Proof/Machine/Protection.lean ====
section
/-! DEFINITION. Channel Protection's own timers and the two requests it judges (Chapter 7):
ALERT_TIMER_EXPIRY, RUN_ON_TIMER_EXPIRY, QUIET_TIMER_EXPIRY; the tests and effects of CLEAR FEEDER and
RELEASE. -/

namespace Sys2Proof.Machine

/-! ### Alert timers (R115) -/

/-- The state of a residual condition. -/
def Supervisor.condition (p : Supervisor) : ResidualCondition → Cond
  | .low => p.low
  | .high => p.high
  | .highHigh => p.highHigh

/-- The alert timer of a residual condition. -/
def Supervisor.alertTimer (p : Supervisor) : ResidualCondition → Timer
  | .low => p.tL
  | .high => p.tH
  | .highHigh => p.tHH

/-- A residual condition becomes ACTIVE and its timer stops (R115). -/
def Supervisor.raise (p : Supervisor) : ResidualCondition → Supervisor
  | .low => { p with low := .active, tL := none }
  | .high => { p with high := .active, tH := none }
  | .highHigh => { p with highHigh := .active, tHH := none }

/-- The cause an ALARM gives for an alert expiry (R129). -/
def expiryCause : ResidualCondition → AlarmCause
  | .low => .tLExpiry
  | .high => .tHExpiry
  | .highHigh => .tHHExpiry

/-- ALERT_TIMER_EXPIRY: a tL, tH or tHH timer expires; its condition, in ALERT, becomes ACTIVE (R115). -/
def execAlertTimerExpiry (k : Fin 4) (w : ResidualCondition) (s : State) :
    Host.Outcome State Fault Refusal :=
  match s.service with
  | none => .next s
  | some im =>
    let c := s.channel k
    if (im.channel k).configured && c.sup.condition w == .alert && (c.sup.alertTimer w).due then
      .next (s.settleChannel im k { c with sup := c.sup.raise w } (some (expiryCause w))).settleRestart
    else .next s

/-! ### Run-on and quiet timers -/

/-- RUN_ON_TIMER_EXPIRY: RUN-ON, in ALERT, returns to CLEAR; no ALARM is queued (R118). -/
def execRunOnTimerExpiry (k : Fin 4) (s : State) : Host.Outcome State Fault Refusal :=
  match s.service with
  | none => .next s
  | some im =>
    let c := s.channel k
    if (im.channel k).configured && c.sup.runOn == .alert && c.sup.runOnTimer.due then
      .next (s.settleChannel im k { c with sup := { c.sup with runOn := .clear, runOnTimer := none } } none)
    else .next s

/-- QUIET_TIMER_EXPIRY: the quiet timer stops, without other effect (R117). -/
def execQuietTimerExpiry (k : Fin 4) (s : State) : Host.Outcome State Fault Refusal :=
  match s.service with
  | none => .next s
  | some im =>
    let c := s.channel k
    if (im.channel k).configured && c.sup.quietTimer.due then
      .next (s.setChannel k { c with sup := { c.sup with quietTimer := none } })
    else .next s

/-! ### CLEAR FEEDER and RELEASE (7.5) -/

/-- What an accepted CLEAR FEEDER or RELEASE does to the list and the miss count (R105). -/
def FeederDrive.forget (f : FeederDrive) : FeederDrive := { f with strokes := [], misses := 0 }

/-- Steps 1 and 2 of an accepted CLEAR FEEDER (R124). -/
def Channel.clearFeeder (c : Channel) : Channel :=
  { c with sup := { c.sup with feederFault := .clear }, feeder := c.feeder.forget }

/-- The cause of each lockout condition that is ACTIVE has gone (R125). -/
def Supervisor.causeGone (cc : ChannelConfig) (p : Supervisor) : Bool :=
  (p.highHigh != .active ||
    ((p.lastResidual.any fun r => decide (r < cc.hhLimit)) && p.stale == .clear))
    && (p.runOn != .active || p.quietTimer.isNone)

/-- The condition table and timers after an accepted RELEASE (R126 step 1). -/
def Supervisor.released (p : Supervisor) (analyzerStale : Bool) : Supervisor :=
  { p with
    low := .clear
    high := .clear
    highHigh := .clear
    runOn := .clear
    feederFault := .clear
    stale := if analyzerStale then .active else .clear
    tL := none
    tH := none
    tHH := none
    runOnTimer := none
    quietTimer := none
    lockout := p.lockout.map fun r => { r with released := true } }

/-- The mapped analyzer of a channel is STALE (R126). -/
def State.analyzerStale (s : State) (cc : ChannelConfig) : Bool :=
  cc.analyzer.any fun a => !(s.intake.records.get a).fresh

/-- Eest is set to the E0 of the active profile on a chlorine channel (R126 step 4). -/
def DoseEngine.resetEstimate (d : DoseEngine) (cc : ChannelConfig) : DoseEngine :=
  if cc.kind = .chlorine then { d with eest := (cc.profile d.activeIndex).e0 } else d

/-- Steps 1 to 4 of an accepted RELEASE (R126). -/
def Channel.releaseLock (cc : ChannelConfig) (analyzerStale : Bool) (c : Channel) : Channel :=
  { c with
    sup := c.sup.released analyzerStale
    feeder := { c.feeder.forget with ac := 0 }
    dose := c.dose.resetEstimate cc }

/-- CLEAR FEEDER on a configured channel: its code, and its effect when accepted (R124). -/
def State.takeClearFeeder (s : State) (im : Image) (k : Fin 4) : ResultCode × State :=
  if (s.channel k).state = .faulted then
    (.accepted, s.settleChannel im k (s.channel k).clearFeeder (some .clearFeeder))
  else (.refusedState, s)

/-- RELEASE on a configured channel: its code, and its effect when accepted (R125, R126). -/
def State.takeRelease (s : State) (im : Image) (k : Fin 4) : ResultCode × State :=
  let cc := im.channel k
  if (s.channel k).state = .locked then
    if (s.channel k).sup.causeGone cc then
      (.accepted,
        s.settleChannel im k ((s.channel k).releaseLock cc (s.analyzerStale cc)) (some .release))
    else (.refusedPresent, s)
  else (.refusedState, s)

end Sys2Proof.Machine
end

