-- ==== Sys2Proof/Machine/Records.lean ====
section
/-! DEFINITION. The Record Builder (Chapter 9): dose records, report queue, packing test, health table, and the
commands REPORT_TIMER_EXPIRY and PACKING_TEST. -/

namespace Sys2Proof.Machine

/-! ### Report queue and packing -/

/-- Most records of the report queue (R148). -/
def reportCapacity : Nat := 16

/-- A record appended to the report queue; the oldest is discarded when it is full (R148). -/
def appendRecord (q : List DoseRecord) (r : DoseRecord) : List DoseRecord :=
  (if reportCapacity ≤ q.length then q.drop 1 else q) ++ [r]

/-- One RECORDS frame of the n oldest records, queued into a free entry (R149, R144). -/
def State.packOne (s : State) (n : Nat) : State :=
  ({ s with recs := { s.recs with queue := s.recs.queue.drop n } } : State).enqueue
    (.records (s.recs.queue.take n))

/-- Frames of n records packed while at least `need` records wait and the transmit queue has a free
entry; `fuel` bounds the frames, of which the queue takes at most 8 (R149, R144). -/
def State.packWhile (n need : Nat) : Nat → State → State
  | 0, s => s
  | fuel + 1, s =>
    if need ≤ s.recs.queue.length ∧ 0 < s.recs.queue.length ∧ s.link.queue.length < queueCapacity then
      State.packWhile n need fuel (s.packOne n)
    else s

/-- The packing test, made in JOIN, RUN and ISOLATED (R149). -/
def State.packingTest (s : State) (im : Image) : State :=
  if s.stn.transmits then
    s.packWhile im.station.packingCount im.station.packingCount queueCapacity
  else s

/-- A flush: frames of three records, the last with what remains, while there is room (R144). -/
def State.flushRecords (s : State) : State := s.packWhile 3 1 queueCapacity

/-- PACKING_TEST: the packing test (R149). -/
def execPackingTest (s : State) : Host.Outcome State Fault Refusal :=
  match s.service with
  | none => .next s
  | some im => .next (s.packingTest im)

/-! ### Dose records (R147) -/

/-- Mean delivered dose of an interval: 0 when no volume, at most 65,535 (R147). -/
def meanDose (granted volume : Nat) : Nat :=
  if volume = 0 then 0 else min top16 (granted * 100 / volume)

/-- The dose record of a channel (R147). The granted mass it holds is the record's 32-bit figure (R146);
the shortfall includes the credit dropped (R94, R108). -/
def Channel.record (c : Channel) (k : Fin 4) (seq : Nat) : DoseRecord where
  seq := seq
  channel := k
  state := c.state
  volume := c.iv.volume
  granted := min top32 c.iv.granted
  confirmedMass := c.iv.confirmedMass
  shortfall := satAdd top32 c.iv.shortfall c.iv.creditDropped
  meanDose := meanDose c.iv.granted c.iv.volume
  minResidual := c.iv.minResidual
  maxResidual := c.iv.maxResidual
  feedLimitSeen := c.iv.feedLimitSeen
  unusableSeen := decide (0 < c.iv.unusable)
  condActive := c.iv.condActive

/-- The next sequence number, from 65,535 to 0 (R147). -/
def nextSeq (n : Nat) : Nat := if top16 ≤ n then 0 else n + 1

/-- A channel at the start of a new interval: figures 0, the condition-active flag set at once when a
condition is ACTIVE (R146). -/
def Channel.newInterval (c : Channel) : Channel :=
  { c with iv := { Interval.zero with condActive := c.sup.anyActive } }

/-- One channel's record built, numbered and appended, its interval begun anew (R147 step 1). -/
def State.closeInterval (s : State) (k : Fin 4) : State :=
  let c := s.channel k
  ({ s with
    recs :=
      { s.recs with
        queue := appendRecord s.recs.queue (c.record k s.recs.seq)
        seq := nextSeq s.recs.seq } } : State).setChannel k c.newInterval

/-! ### Health table (R153) -/

/-- An attribute at a report expiry: the new value where there is one, the lower worst, the raw count
(R153). -/
def Attr.update (a : Attr) (value : Option Nat) (raw : Nat) : Attr :=
  match value with
  | some v => { a with value := v, worst := min a.worst v, raw := satAdd top32 a.raw raw }
  | none => { a with raw := satAdd top32 a.raw raw }

/-- A percentage of a denominator above 0; none when the denominator is 0 (R153). -/
def percent (part whole : Nat) : Option Nat := if whole = 0 then none else some (part * 100 / whole)

/-- A percentage capped at 100, as FEED and ANNOUNCE take it (R153). -/
def cappedPercent (part whole : Nat) : Option Nat := (percent part whole).map (min 100)

/-- The health of a channel from the figures of the closing interval (R153). -/
def ChannelHealth.update (h : ChannelHealth) (i : Interval) : ChannelHealth where
  feed := h.feed.update (cappedPercent i.confirmed i.issued) i.missed
  share := h.share.update (percent i.gSum i.mSum) (i.mSum - i.gSum)
  samples := h.samples.update (percent i.good i.received) (i.received - i.good)

/-- The health table updated from the closing interval, and the station counters set to 0 (R153); the
health-warning flag formed (R154). `closing` holds the channels as they stood at the expiry. -/
def RecordBuilder.updateHealth (r : RecordBuilder) (closing : Four Channel) : RecordBuilder :=
  let h : HealthTable :=
    { channels := Four.ofFn fun k => (r.health.channels.get k).update (closing.get k).iv
      link := r.health.link.update (percent r.accepted (r.accepted + r.rejected)) r.rejected
      announce := r.health.announce.update (cappedPercent r.sent r.built) r.coalesced }
  { r with
    health := h
    warning := h.anyBelow
    accepted := 0
    rejected := 0
    built := 0
    sent := 0
    coalesced := 0 }

/-- REPORT_TIMER_EXPIRY: records built and queued, health updated, packing test made (R147). -/
def execReportTimerExpiry (s : State) : Host.Outcome State Fault Refusal :=
  match s.service with
  | none => .next s
  | some im =>
    if s.recs.timer.due then
      let closing := s.channels
      let s := s.forChannels im.configured fun k s => s.closeInterval k
      let recs :=
        { s.recs.updateHealth closing with timer := startS im.station.reportInterval }
      .next (({ s with recs := recs } : State).packingTest im)
    else .next s

end Sys2Proof.Machine
end

