-- ==== Sys2Proof/Machine/Peer.lean ====
section
/-! DEFINITION. The Peer View (Chapter 4) and the receive side of the link (10.3): ANNOUNCE_EXPIRY, DEMAND_FRAME,
SUPPLY_FRAME, CONFLICT_FRAME, OTHER_FRAME, LINK_REJECT. -/

namespace Sys2Proof.Machine

/-! ### Station states -/

/-- Entry into JOIN: the join count is set to 0 (R60). -/
def State.enterJoin (s : State) : State :=
  { s with stn := .join, peer := { s.peer with joinCount := 0 } }

/-- A frame from another station: silence count 0, heard flag set, and in ISOLATED entry into JOIN with an
ISOLATION ENDED alarm (R61, R63, R163). -/
def State.hear (s : State) : State :=
  let s := { s with peer := { s.peer with silence := 0, heard := true } }
  if s.stn = .isolated then s.enterJoin.enqueue (.alarm .isolationEnded) else s

/-- The transmit queue and the announce slot emptied on entry into SILENT (R64); the transmitter is idle, since a
conflict frame is received only while it is (R164). An awaited ANSWER removed so has left the queue (R143). -/
def Link.empty (l : Link) : Link :=
  { l with
    queue := []
    slot := none
    awaitedLeft := l.awaitedLeft || l.queue.any Entry.awaited }

/-- A conflict seen: the conflict-clear count is 0 and the flag is set (R64, R65). -/
def PeerView.seeConflict (p : PeerView) : PeerView := { p with conflictClear := 0, conflictSeen := true }

/-- The conflict that brings SILENT (R64), and whether it arrives together with an announce expiry, which is then
due and still to be taken (R66). -/
def PeerView.silenced (p : PeerView) : PeerView :=
  { p.seeConflict with silencedAtExpiry := p.timer.due }

/-- Entry into SILENT (R64). A station that leaves ISOLATED queues ISOLATION ENDED first. -/
def State.enterSilent (s : State) : State :=
  let s := if s.stn = .isolated then s.enqueue (.alarm .isolationEnded) else s
  { s with stn := .silent, link := s.link.empty, peer := s.peer.silenced }

/-- A conflict frame: silence count 0 and heard flag set (R61, R163), then SILENT entered, or in SILENT the
count set back (R64, R65). -/
def State.conflict (s : State) : State :=
  let s := { s with peer := { s.peer with silence := 0, heard := true } }
  if s.stn = .silent then { s with peer := s.peer.seeConflict } else s.enterSilent

/-- A valid frame from another station has ended: counted as one frame accepted for the LINK attribute (R162). -/
def State.countAccepted (s : State) : State :=
  { s with link := s.link.lineDriven, recs := { s.recs with accepted := s.recs.accepted + 1 } }

/-- The receiver takes frames: the part drives none, and the line has been idle since an attempt of its own that
completed or collided, whose reading is discarded. An attempt that is lost ends before the winning frame does, and
that frame is taken (R158, R162). -/
def Link.listens (l : Link) : Bool := l.tx == .idle && l.line != .own

/-- A valid frame: counted as accepted (R162), taken as a conflict frame when it bears the station's own
number, and otherwise heard and then dispatched (R163). A restart that the event brings begins at its
end. What the receiver reads within an attempt of the part's own changes nothing (R158, R162). -/
def State.receive (s : State) (im : Image) (src : Byte) (dispatch : State → State) : State :=
  if s.link.listens then
    let s := s.countAccepted
    (if im.ownSource src then s.conflict else dispatch s.hear).settleRestart
  else s

/-! ### The peer table (R69, R70) -/

/-- An entry put into the table under its station number, ascending (R69). -/
def upsertPeer (e : PeerEntry) : List PeerEntry → List PeerEntry
  | [] => [e]
  | x :: xs =>
    if e.number < x.number then e :: x :: xs
    else if e.number = x.number then e :: xs
    else x :: upsertPeer e xs

/-- Age at which an entry or a slot is removed (R70, R72). -/
def removalAge : Nat := 6

/-- The peer table aged by one expiry (R70). -/
def agePeers (t : List PeerEntry) : List PeerEntry :=
  (t.map fun e => { e with age := e.age + 1 }).filter fun e => decide (e.age < removalAge)

/-- DEMAND_FRAME: a valid DEMAND (R69). A source above 31 changes no entry. -/
def execDemandFrame (src dst weight state flags : Byte) (demand : Four Word) (s : State) :
    Host.Outcome State Fault Refusal :=
  let _ := dst
  match s.service with
  | none => .next s
  | some im =>
    .next (s.receive im src fun s =>
      if src.toNat ≤ 31 then
        let e : PeerEntry :=
          { number := src.toNat
            weight := heldWeight weight.toNat
            state := reportedState state
            demand := Four.ofFn fun g => (demand.get g).toNat
            healthWarning := demandHealthFlag flags
            age := 0 }
        { s with peer := { s.peer with table := upsertPeer e s.peer.table } }
      else s)

/-! ### The capacity table (R71, R72) -/

/-- The slot holds a given source. -/
def holdsSource (slot : Option CapacitySlot) (source : Nat) : Bool :=
  slot.any fun x => x.source == source

/-- A SUPPLY placed in the slots of its group, by the first case of R71 that applies. -/
def GroupSlots.place (g : GroupSlots) (x : CapacitySlot) : GroupSlots :=
  if holdsSource g.slot0 x.source then { g with slot0 := some x }
  else if holdsSource g.slot1 x.source then { g with slot1 := some x }
  else
    match g.slot0, g.slot1 with
    | none, _ => { g with slot0 := some x }
    | some _, none => { g with slot1 := some x }
    | some a, some b => if a.age < b.age then { g with slot1 := some x } else { g with slot0 := some x }

/-- A slot aged by one expiry, emptied at age 6 (R72). -/
def ageSlot (slot : Option CapacitySlot) : Option CapacitySlot :=
  match slot with
  | none => none
  | some x => if x.age + 1 < removalAge then some { x with age := x.age + 1 } else none

/-- The capacity table aged by one expiry (R72). -/
def ageCapacity (t : Four GroupSlots) : Four GroupSlots :=
  Four.ofFn fun g => ⟨ageSlot (t.get g).slot0, ageSlot (t.get g).slot1⟩

/-- SUPPLY_FRAME: a valid SUPPLY, its capacity clamped to the group's maximum (R71). A source above 31 or a
group above 3 changes no slot. -/
def execSupplyFrame (src dst group : Byte) (capacity : Word) (s : State) :
    Host.Outcome State Fault Refusal :=
  let _ := dst
  match s.service with
  | none => .next s
  | some im =>
    .next (s.receive im src fun s =>
      match fourOf group.toNat with
      | some g =>
        if src.toNat ≤ 31 then
          let x : CapacitySlot := ⟨src.toNat, min capacity.toNat (im.groups.get g).maxCapacity, 0⟩
          { s with
            peer := { s.peer with capacity := s.peer.capacity.set g ((s.peer.capacity.get g).place x) } }
        else s
      | none => s)

/-- CONFLICT_FRAME: a valid frame bearing the station's own number (R64, R65), received outside the part's own
attempts (R158, R164). -/
def execConflictFrame (s : State) : Host.Outcome State Fault Refusal :=
  match s.service with
  | none => .next s
  | some _ =>
    if s.link.listens then .next s.countAccepted.conflict.settleRestart else .next s

/-- OTHER_FRAME: a valid frame from another station that is dispatched to no block (R163). -/
def execOtherFrame (src kind dst : Byte) (s : State) : Host.Outcome State Fault Refusal :=
  let _ := (kind, dst)
  match s.service with
  | none => .next s
  | some im => .next (s.receive im src id)

/-! ### Frames that fail their checks (R162, R171) -/

/-- Payload lengths of a known kind; none for an unknown kind (12.1.1). -/
def kindLengths (kind : Nat) : Option (List Nat) :=
  match kind with
  | 1 => some [19]
  | 2 => some [5]
  | 3 => some [10]
  | 4 => some [3, 5, 24, 25, 43, 53, 55, 62, 81, 88]
  | 5 => some [27, 54, 81]
  | 6 => some [5]
  | 7 => some [4]
  | 8 => some [4]
  | 9 => some [2]
  | 10 => some [0]
  | 11 => some [2]
  | 12 => some [2]
  | 13 => some [1]
  | 14 => some [0]
  | 15 => some [4]
  | _ => none

/-- The payload length is one that the kind allows (R162, R171). -/
def lengthAllowed (kind n : Nat) : Bool :=
  match kindLengths kind with
  | some ls => ls.contains n
  | none => true

/-- The bytes driven from an idle line on begin with a valid frame: length byte at most 88, not ended before byte
6 + n, CRC good, length allowed for the kind. Bytes after byte 6 + n belong to no frame (R162). -/
def validFrame (bs : List Byte) : Bool :=
  let n := (bs.getD 4 0).toNat
  decide (n ≤ 88) && decide (n + 7 ≤ bs.length)
    && withCrc (bs.take (n + 5)) == bs.take (n + 7) && lengthAllowed (bs.getD 2 0).toNat n

/-- LINK_REJECT: a received frame that fails a check is discarded and counted as one link reject (R162,
R171). Bytes that make a valid frame are no link reject, and what is read within an attempt of the part's own is
none (R158, R162). -/
def execLinkReject (bytes : List Byte) (s : State) : Host.Outcome State Fault Refusal :=
  match s.service with
  | none => .next s
  | some _ =>
    if validFrame bytes || !s.link.listens then .next s
    else
      .next { s with
        link := s.link.lineDriven
        recs := { s.recs with rejected := s.recs.rejected + 1 } }

/-! ### The announce expiry (R59) -/

/-- Step 3: the silence count brought up to date (R61). -/
def PeerView.updateSilence (p : PeerView) (limit : Nat) : PeerView :=
  if p.heard then { p with heard := false }
  else { p with silence := if p.silence < limit then p.silence + 1 else p.silence }

/-- In RUN, a silence count at the limit takes the station to ISOLATED with its alarm (R62). -/
def State.isolationTest (s : State) (limit : Nat) : State :=
  if limit ≤ s.peer.silence then
    ({ s with stn := .isolated } : State).enqueue (.alarm .isolationBegun)
  else s

/-- In JOIN, the join count rises, and at 2 the station enters RUN and is tested at once (R60). -/
def State.joinStep (s : State) (limit : Nat) : State :=
  let s := { s with peer := { s.peer with joinCount := s.peer.joinCount + 1 } }
  if 2 ≤ s.peer.joinCount then ({ s with stn := .run } : State).isolationTest limit else s

/-- Entry into JOIN from SILENT: the test of R157 is made at once (R164), the ADDRESS CONFLICT alarm is queued
(R65) and the packing test is made (R149). DESIGN CHOICE (assumption 13): the manual leaves the order of the
alarm and the packing test open, so a free choice picks it. -/
def State.rejoin (s : State) (im : Image) : State :=
  let s := s.enterJoin.attemptTest
  if s.choice % 2 = 0 then (s.choiceRead.enqueue (.alarm .addressConflict)).packingTest im
  else (s.choiceRead.packingTest im).enqueue (.alarm .addressConflict)

/-- In SILENT, a clean expiry raises the conflict-clear count, and at 4 the station enters JOIN (R65). An expiry
with the conflict-seen flag set is not clean and clears the flag (R65), except that an expiry which arrived
together with the conflict frame that brought SILENT leaves it set, as R66 has it in either order. DESIGN CHOICE
(assumption 24): R66 is read as the exception to R65 for that pair. -/
def State.conflictClearStep (s : State) (im : Image) : State :=
  if s.peer.conflictSeen then
    { s with
      peer := { s.peer with conflictSeen := s.peer.silencedAtExpiry, silencedAtExpiry := false } }
  else
    let s := { s with
      peer :=
        { s.peer with conflictClear := s.peer.conflictClear + 1, silencedAtExpiry := false } }
    if 4 ≤ s.peer.conflictClear then s.rejoin im else s

/-- Step 4: one state step, chosen by the station state as it stands (R59). -/
def State.stationStep (s : State) (im : Image) : State :=
  match s.stn with
  | .join => s.joinStep im.station.silenceLimit
  | .run => s.isolationTest im.station.silenceLimit
  | .isolated => s
  | .silent => s.conflictClearStep im
  | .load => s
  | .halted => s

/-- The DEMAND as it stands at the build (R67). -/
def State.buildDemand (s : State) (im : Image) : Demand where
  weight := im.station.weight
  state := s.stn
  healthWarning := s.recs.warning
  demand := Four.ofFn fun g => s.stationDemand im g

/-- A built DEMAND placed in the announce slot; one that waits there is coalesced (R67, R68). Its placing is one
of the events of the test of R157. -/
def State.announce (s : State) (im : Image) : State :=
  ({ s with
    recs :=
      { s.recs with
        built := s.recs.built + 1
        coalesced := if s.link.slot.isSome then s.recs.coalesced + 1 else s.recs.coalesced }
    link := { s.link with slot := some ⟨s.buildDemand im, 0⟩ } } : State).attemptTest

/-- Steps 1 to 3 of an announce expiry, and the restart of the timer (R59, R58). -/
def PeerView.expire (p : PeerView) (im : Image) : PeerView :=
  { ({ p with table := agePeers p.table, capacity := ageCapacity p.capacity }.updateSilence
      im.station.silenceLimit) with
    timer := startS im.station.announcePeriod }

/-- ANNOUNCE_EXPIRY: the announce timer expires (R59). -/
def execAnnounceExpiry (s : State) : Host.Outcome State Fault Refusal :=
  match s.service with
  | none => .next s
  | some im =>
    if s.peer.timer.due then
      let s := ({ s with peer := s.peer.expire im } : State).stationStep im
      let s := if s.stn.transmits then s.announce im else s
      .next s.settleRestart
    else .next s

end Sys2Proof.Machine
end

