-- ==== Sys2Proof/Machine/Requests.lean ====
section
/-! DEFINITION. The Request Handler (Chapter 8) and QUERY (9.3): TARGET, PROFILE, CEILING, FREEZE, COMMIT,
CLEAR_FEEDER, RELEASE, RESTART, FLUSH, QUERY. -/

namespace Sys2Proof.Machine

/-! ### Taking and answering a request (R133, R134) -/

/-- A request frame: received as any valid frame, and acted on when it is addressed to this station and the
station is in JOIN, RUN or ISOLATED (R133, R163). The silence step comes first, so a request that ends
isolation is taken in JOIN. -/
def State.request (s : State) (im : Image) (src dst : Byte) (act : State → State) : State :=
  s.receive im src fun s => if im.addressed dst && s.stn.transmits then act s else s

/-- An ANSWER to the request's source, queued within the request's arrival (R134). -/
def State.answer (s : State) (src tag : Byte) (kind : Nat) (result : ResultCode) (channel : Byte)
    (content : AnswerContent) (awaited : Bool := false) : State :=
  s.enqueue (.answer ⟨src, tag, kind, result, channel, content⟩) awaited

/-- A request that names a channel: answered REFUSED-CHANNEL when the number is above 3 or the channel is
of kind NONE, and judged by its own entry otherwise (R133). -/
def State.onNamed (s : State) (im : Image) (src tag : Byte) (kind : Nat) (ch : Byte)
    (refused : AnswerContent) (act : Fin 4 → State → State) : State :=
  match im.named ch with
  | some k => act k s
  | none => s.answer src tag kind .refusedChannel ch refused

/-! ### TARGET (R135, R136) -/

/-- A target limited to the range of the channel's kind (R135). -/
def clampTarget (kind : Kind) (v : Nat) : Nat := min v kind.targetTop

/-- The target item a TARGET gives: "revert", or the limited value (R135, R136). -/
def targetItem (kind : Kind) (flags : Byte) (value : Half) : TargetItem :=
  if clearingFlag flags then .revert else .value (clampTarget kind value.toNat)

/-- The override that a target item leaves (R135, R138). -/
def TargetItem.override : TargetItem → Option Nat
  | .value v => some v
  | .revert => none

/-- The code of a TARGET: CLAMPED when the value was read and lies above the range (R135). -/
def targetCode (kind : Kind) (flags : Byte) (value : Half) : ResultCode :=
  if !clearingFlag flags && decide (kind.targetTop < value.toNat) then .clamped else .accepted

/-- TARGET on a channel: the override set or cleared, or the item staged (R135, R136). -/
def DoseEngine.target (d : DoseEngine) (deferred : Bool) (item : TargetItem) : DoseEngine :=
  if deferred then { d with pendingTarget := some item } else { d with targetOverride := item.override }

/-- TARGET acted on (R135, R136). -/
def State.takeTarget (s : State) (im : Image) (src tag ch flags : Byte) (value : Half) : State :=
  s.onNamed im src tag 6 ch (.value none) fun k s =>
    let kind := (im.channel k).kind
    let item := targetItem kind flags value
    (s.onChannel k fun c => { c with dose := c.dose.target (deferredFlag flags) item }).answer
      src tag 6 (targetCode kind flags value) ch (.value item.override)

/-- TARGET: Set Dose Target (R135, R136). -/
def execTarget (src dst tag ch flags : Byte) (value : Half) (s : State) :
    Host.Outcome State Fault Refusal :=
  match s.service with
  | none => .next s
  | some im => .next (s.request im src dst fun s => s.takeTarget im src tag ch flags value)

/-! ### PROFILE (R137) -/

/-- The profile item a PROFILE gives: "release" (the index is not read), an index 0-7, or none for an
index of 8-255 (R137). -/
def profileItem (flags index : Byte) : Option ProfileItem :=
  if clearingFlag flags then some .release else (eightOf index.toNat).map .index

/-- The override that a profile item leaves (R137, R138). -/
def ProfileItem.override : ProfileItem → Option (Fin 8)
  | .index i => some i
  | .release => none

/-- The value an ANSWER gives for a staged item: the index, 255 for "release" (R137). -/
def ProfileItem.staged : ProfileItem → Nat
  | .index i => i.val
  | .release => 255

/-- An immediate profile item applied: the override set or removed, the active index formed again
(R137, R19). -/
def DoseEngine.applyProfile (d : DoseEngine) (cc : ChannelConfig) (selector : Fin 8)
    (item : ProfileItem) : DoseEngine :=
  { d with profileOverride := item.override }.formIndex cc selector

/-- PROFILE on a channel: applied at once, or staged (R137). -/
def DoseEngine.profile (d : DoseEngine) (cc : ChannelConfig) (selector : Fin 8) (deferred : Bool)
    (item : ProfileItem) : DoseEngine :=
  if deferred then { d with pendingProfile := some item } else d.applyProfile cc selector item

/-- PROFILE acted on (R137). -/
def State.takeProfile (s : State) (im : Image) (src tag ch flags index : Byte) : State :=
  s.onNamed im src tag 7 ch (.value none) fun k s =>
    match profileItem flags index with
    | none =>
      s.answer src tag 7 .refusedValue ch (.value (some (s.channel k).dose.activeIndex.val))
    | some item =>
      let s := s.onChannel k fun c =>
        { c with
          dose := c.dose.profile (im.channel k) s.selector.index (deferredFlag flags) item }
      s.answer src tag 7 .accepted ch (.value (some
        (if deferredFlag flags then item.staged else (s.channel k).dose.activeIndex.val)))

/-- PROFILE: Set Profile Override (R137). -/
def execProfile (src dst tag ch flags index : Byte) (s : State) : Host.Outcome State Fault Refusal :=
  match s.service with
  | none => .next s
  | some im => .next (s.request im src dst fun s => s.takeProfile im src tag ch flags index)

/-! ### CEILING and FREEZE (R140, R141) -/

/-- Cw written: Deff above it is lowered to it at once (R22, R140). -/
def DoseEngine.setCeiling (d : DoseEngine) (cw : Nat) : DoseEngine := { d with cw := cw, deff := min d.deff cw }

/-- CEILING judged on a channel: its code and the Dose Engine after it (R140). -/
def DoseEngine.ceiling (d : DoseEngine) (native value : Nat) : ResultCode × DoseEngine :=
  if d.freeze then (.refusedFrozen, d)
  else if value = 0 then (.refusedValue, d)
  else if native < value then (.clamped, d.setCeiling native)
  else (.accepted, d.setCeiling value)

/-- CEILING acted on; the ANSWER carries Cw as it stands after (R140). -/
def State.takeCeiling (s : State) (im : Image) (src tag ch : Byte) (value : Half) : State :=
  s.onNamed im src tag 8 ch (.value none) fun k s =>
    let r := (s.channel k).dose.ceiling (im.channel k).nativeCeiling value.toNat
    (s.onChannel k fun c => { c with dose := r.2 }).answer src tag 8 r.1 ch (.value (some r.2.cw))

/-- CEILING: Set Working Ceiling (R140). -/
def execCeiling (src dst tag ch : Byte) (value : Half) (s : State) : Host.Outcome State Fault Refusal :=
  match s.service with
  | none => .next s
  | some im => .next (s.request im src dst fun s => s.takeCeiling im src tag ch value)

/-- FREEZE acted on: the flag is set (R141). -/
def State.takeFreeze (s : State) (im : Image) (src tag ch : Byte) : State :=
  s.onNamed im src tag 9 ch .plain fun k s =>
    (s.onChannel k fun c => { c with dose := { c.dose with freeze := true } }).answer
      src tag 9 .accepted ch .plain

/-- FREEZE: Freeze Working Ceiling (R141). -/
def execFreeze (src dst tag ch : Byte) (s : State) : Host.Outcome State Fault Refusal :=
  match s.service with
  | none => .next s
  | some im => .next (s.request im src dst fun s => s.takeFreeze im src tag ch)

/-! ### COMMIT (R138) -/

/-- The pending items of a channel applied, profile first, and the slot emptied (R138). -/
def DoseEngine.commit (d : DoseEngine) (cc : ChannelConfig) (selector : Fin 8) : DoseEngine :=
  let d1 := match d.pendingProfile with
    | some item => d.applyProfile cc selector item
    | none => d
  let d2 := match d.pendingTarget with
    | some item => { d1 with targetOverride := item.override }
    | none => d1
  { d2 with pendingProfile := none, pendingTarget := none }

/-- COMMIT acted on: each configured channel, ascending (R138). -/
def State.takeCommit (s : State) (im : Image) : State :=
  s.forChannels im.configured fun k s =>
    s.onChannel k fun c => { c with dose := c.dose.commit (im.channel k) s.selector.index }

/-- COMMIT: Apply Staged Items; acted on in SILENT too, never answered (R133, R138). -/
def execCommit (src dst : Byte) (s : State) : Host.Outcome State Fault Refusal :=
  match s.service with
  | none => .next s
  | some im =>
    .next (s.receive im src fun s => if im.addressed dst then s.takeCommit im else s)

/-! ### CLEAR FEEDER and RELEASE (R142) -/

/-- CLEAR FEEDER passed to the Channel Supervisor, its code put into the ANSWER (R124, R142). -/
def execClearFeeder (src dst tag ch : Byte) (s : State) : Host.Outcome State Fault Refusal :=
  match s.service with
  | none => .next s
  | some im =>
    .next (s.request im src dst fun s =>
      s.onNamed im src tag 11 ch .plain fun k s =>
        let r := s.takeClearFeeder im k
        r.2.answer src tag 11 r.1 ch .plain)

/-- RELEASE passed to the Channel Supervisor, its code put into the ANSWER (R125, R126, R142). -/
def execRelease (src dst tag ch : Byte) (s : State) : Host.Outcome State Fault Refusal :=
  match s.service with
  | none => .next s
  | some im =>
    .next (s.request im src dst fun s =>
      s.onNamed im src tag 12 ch .plain fun k s =>
        let r := s.takeRelease im k
        r.2.answer src tag 12 r.1 ch .plain)

/-! ### RESTART and FLUSH (R143, R144) -/

/-- RESTART acted on: the flag set and the awaited ANSWER queued (R143). An ANSWER that finds no room has
left the queue, and the restart begins at the end of the arrival. -/
def State.takeRestart (s : State) (src tag : Byte) : State :=
  ({ s with restartPending := true } : State).answer src tag 13 .accepted 255 .plain true

/-- RESTART: Restart the Station (R143). -/
def execRestart (src dst tag : Byte) (s : State) : Host.Outcome State Fault Refusal :=
  match s.service with
  | none => .next s
  | some im => .next (s.request im src dst fun s => s.takeRestart src tag)

/-- FLUSH: Send Waiting Records (R144). -/
def execFlush (src dst : Byte) (s : State) : Host.Outcome State Fault Refusal :=
  match s.service with
  | none => .next s
  | some im => .next (s.request im src dst fun s => s.flushRecords)

/-! ### QUERY (R150 to R152) -/

/-- The profile index a view shows: the pending item where the view is PENDING and one is present (R151). -/
def DoseEngine.viewIndex (d : DoseEngine) (selector : Fin 8) (w : View) : Fin 8 :=
  match w, d.pendingProfile with
  | .pending, some (.index i) => i
  | .pending, some .release => selector
  | .pending, none => d.activeIndex
  | .active, _ => d.activeIndex

/-- The source a view shows: OVERRIDE or SELECTOR (R151). -/
def DoseEngine.viewOverride (d : DoseEngine) (w : View) : Bool :=
  match w, d.pendingProfile with
  | .pending, some (.index _) => true
  | .pending, some .release => false
  | .pending, none => d.profileOverride.isSome
  | .active, _ => d.profileOverride.isSome

/-- The target override a view shows (R151). -/
def DoseEngine.viewTarget (d : DoseEngine) (w : View) : Option Nat :=
  match w, d.pendingTarget with
  | .pending, some item => item.override
  | .pending, none => d.targetOverride
  | .active, _ => d.targetOverride

/-- B of a coagulant profile, Rt of a chlorine one (R151). -/
def Profile.base (p : Profile) (kind : Kind) : Nat := if kind = .chlorine then p.rt else p.b

/-- The contents of a CHANNEL answer (R151). -/
def State.channelReport (s : State) (im : Image) (k : Fin 4) (w : View) : ChannelReport :=
  let cc := im.channel k
  let c := s.channel k
  let shown := c.dose.viewIndex s.selector.index w
  { view := w
    kind := cc.kind
    group := cc.group
    state := c.state
    low := c.sup.low
    high := c.sup.high
    highHigh := c.sup.highHigh
    runOn := c.sup.runOn
    feederFault := c.sup.feederFault
    stale := c.sup.stale
    profile := shown
    sourceOverride := c.dose.viewOverride w
    profileFromSlot := w == .pending && c.dose.pendingProfile.isSome
    targetFromSlot := w == .pending && c.dose.pendingTarget.isSome
    freeze := c.dose.freeze
    feedLimit := c.dose.feedLimit
    base := (cc.profile shown).base cc.kind
    target := c.dose.viewTarget w
    cw := c.dose.cw
    deff := c.dose.deff
    m := c.dose.m
    mCap := c.dose.mCap
    gch := c.dose.gch
    estimate := c.estimate cc
    analyzer := cc.analyzer.bind fun a => (s.intake.records.get a).value
    ac := c.feeder.ac
    outstanding := c.feeder.strokes.length
    misses := c.feeder.misses
    issued := c.iv.issued
    confirmed := c.iv.confirmed
    missed := c.iv.missed
    late := c.iv.late
    unexpected := c.iv.unexpected }

/-- The groups of a STATION answer: C as it stands, d_own and G_station from the record (R152). -/
def State.groupReports (s : State) (im : Image) : Four GroupReport :=
  Four.ofFn fun g => ⟨s.capacityOf im g, (s.share.get g).dOwn, (s.share.get g).gStation⟩

/-- Up to four peer entries at or above a start index, ascending (R152). -/
def PeerView.walkFrom (p : PeerView) (start : Nat) : List PeerEntry :=
  (p.table.filter fun e => decide (start ≤ e.number)).take 4

/-- The view a code names: ACTIVE 0, PENDING 1 (12.2). -/
def viewOf (code : Byte) : Option View :=
  if code = 0 then some .active else if code = 1 then some .pending else none

/-- The result code, the channel and the contents of the ANSWER to a QUERY (R150): subjects CHANNEL 1,
STATION 2, PEERS 3, LOCKOUT 4, HEALTH 5; the channel is 255 but for CHANNEL and LOCKOUT. -/
def State.queryAnswer (s : State) (im : Image) (subject p1 p2 : Byte) :
    ResultCode × Byte × AnswerContent :=
  if subject = 1 then
    match im.named p1, viewOf p2 with
    | some k, some w => (.accepted, p1, .channel (s.channelReport im k w))
    | some _, none => (.refusedValue, p1, .plain)
    | none, _ => (.refusedChannel, p1, .plain)
  else if subject = 2 then
    (.accepted, 255, .station s.stn s.peer.silence s.recs.warning (s.groupReports im))
  else if subject = 3 then
    if p1.toNat ≤ 31 then
      (.accepted, 255, .peers s.peer.table.length (s.peer.walkFrom p1.toNat))
    else (.refusedValue, 255, .plain)
  else if subject = 4 then
    match im.named p1 with
    | some k => (.accepted, p1, .lockout (s.channel k).sup.lockout)
    | none => (.refusedChannel, p1, .plain)
  else if subject = 5 then (.accepted, 255, .health s.recs.health s.recs.warning)
  else (.refusedValue, 255, .plain)

/-- QUERY: Report Station State (R150). -/
def execQuery (src dst tag subject p1 p2 : Byte) (s : State) : Host.Outcome State Fault Refusal :=
  match s.service with
  | none => .next s
  | some im =>
    .next (s.request im src dst fun s =>
      let r := s.queryAnswer im subject p1 p2
      s.answer src tag 15 r.1 r.2.1 r.2.2)

end Sys2Proof.Machine
end

