-- ==== Sys2Proof/Machine/Transmit.lean ====
section
/-! DEFINITION. The transmit side of the link (10.2): TRANSMIT_ATTEMPT, FRAME_LOST, FRAME_COLLIDED,
FRAME_COMPLETED, and RESTART_BEGINS; and how the bits of an attempt end it (R155, R158). The choice of a
frame stands in Machine/Attempt.lean. -/

namespace Sys2Proof.Machine

/-- TRANSMIT_ATTEMPT: the line becomes idle at the end of a frame, and the test of R157 is made. While the part
itself drives a frame the line does not become idle. -/
def execTransmitAttempt (s : State) : Host.Outcome State Fault Refusal :=
  if s.link.tx == .idle then
    let l := { s.link with line := .idle }
    .next { s with
      link := if s.service.isSome && s.stn.transmits then l.beginAttempt s.stationNumber else l }
  else .next s

/-! ### How an attempt ends (R158, R159) -/

/-- The entry in attempt becomes WAITING again, with a change to its collision count. -/
def waitAgain (f : Nat → Nat) (q : List Entry) : List Entry :=
  q.map fun e => if e.inAttempt then { e with inAttempt := false, collisions := f e.collisions } else e

/-- The transmitter stops driving. After a lost attempt the winning frame is on the line, and the receiver takes it;
after one that collided or completed it takes nothing until the line is next idle (R158, R162). -/
def Link.stopDriving (l : Link) (line : Line) : Link := { l with tx := .idle, line := line }

/-- A DEMAND goes back to the announce slot if the slot is empty; otherwise the newer DEMAND supersedes it
and it is coalesced (R159). -/
def State.returnDemand (s : State) (a : Announcement) : State :=
  match s.link.slot with
  | none => { s with link := { s.link with slot := some a } }
  | some _ => { s with recs := { s.recs with coalesced := s.recs.coalesced + 1 } }

/-- FRAME_LOST: the frame waits again, its collision count unchanged (R158). -/
def execFrameLost (s : State) : Host.Outcome State Fault Refusal :=
  match s.link.tx with
  | .idle => .next s
  | .entry _ _ =>
    .next { s with link := { s.link.stopDriving .driven with queue := waitAgain id s.link.queue } }
  | .demand a _ _ => .next (({ s with link := s.link.stopDriving .driven } : State).returnDemand a)

/-- The entry in attempt leaves the queue (R159); when it is an awaited ANSWER, the restart is due (R143). -/
def Link.leave (l : Link) : Link :=
  { l.stopDriving .own with
    queue := l.queue.eraseP Entry.inAttempt
    awaitedLeft := l.awaitedLeft || l.queue.any fun e => e.inAttempt && e.awaited }

/-- The packing test that a freed entry brings, and the restart that a leaving ANSWER brings (R159). -/
def State.afterLeaving (s : State) : State :=
  match s.service with
  | none => s
  | some im => (s.packingTest im).settleRestart

/-- A frame dropped at its third collision counts as one link reject (R158). -/
def State.countRejectedFrame (s : State) : State :=
  { s with recs := { s.recs with rejected := s.recs.rejected + 1 } }

/-- Collisions at which a frame is dropped (R158). -/
def collisionLimit : Nat := 3

/-- FRAME_COLLIDED: the collision count rises; at 3 the frame is dropped, otherwise it waits again (R158,
R159). -/
def execFrameCollided (s : State) : Host.Outcome State Fault Refusal :=
  match s.link.tx with
  | .idle => .next s
  | .entry _ _ =>
    if s.link.queue.any fun e => e.inAttempt && decide (collisionLimit ≤ e.collisions + 1) then
      .next ({ s with link := s.link.leave } : State).countRejectedFrame.afterLeaving
    else
      .next { s with
        link := { s.link.stopDriving .own with queue := waitAgain (fun n => n + 1) s.link.queue } }
  | .demand a _ _ =>
    let s := { s with link := s.link.stopDriving .own }
    if collisionLimit ≤ a.collisions + 1 then .next s.countRejectedFrame
    else .next (s.returnDemand { a with collisions := a.collisions + 1 })

/-- FRAME_COMPLETED: the frame has been sent (R158, R159); a completed frame that carried the overflow bit
clears the part of its kind (R161), and a completed DEMAND counts as sent. -/
def execFrameCompleted (s : State) : Host.Outcome State Fault Refusal :=
  match s.link.tx with
  | .idle => .next s
  | .entry overflow _ =>
    let link := s.link.leave
    .next ({ s with
      link := { link with overflowAlarm := link.overflowAlarm && !overflow } } : State).afterLeaving
  | .demand _ overflow _ =>
    .next { s with
      link :=
        { s.link.stopDriving .own with overflowDemand := s.link.overflowDemand && !overflow }
      recs := { s.recs with sent := s.recs.sent + 1 } }

/-- RESTART_BEGINS: an awaited ANSWER leaves the transmit queue while the restart-pending flag is set, and
the station enters LOAD (R143, R169). An event within which the ANSWER leaves (FRAME_COMPLETED, a drop,
entry into SILENT) already begins the restart; this command is the leaving itself, and takes place only
when the flag is set and an awaited ANSWER is in the queue. -/
def execRestartBegins (s : State) : Host.Outcome State Fault Refusal :=
  match s.service with
  | none => .next s
  | some _ =>
    if s.restartPending && s.link.queue.any Entry.awaited then .next s.beginRestart else .next s

/-! ### The bits of an attempt (R155, R158) -/

/-- The eight bits of a byte, most significant first (R155); 0 is dominant, 1 recessive. -/
def byteBits (b : Byte) : List Bool :=
  [b.getLsbD 7, b.getLsbD 6, b.getLsbD 5, b.getLsbD 4, b.getLsbD 3, b.getLsbD 2, b.getLsbD 1, b.getLsbD 0]

/-- The bits of a frame in the order they are driven (R155). -/
def frameBits (bs : List Byte) : List Bool := bs.flatMap byteBits

/-- The level of the line where two stations drive: 0 where either drives 0 (R155). -/
def lineLevel (a b : Bool) : Bool := a && b

/-- How an attempt ends (R158). -/
inductive AttemptEnd where
  | lost
  | collided
  | completed
deriving DecidableEq, Repr

/-- Bits of the priority and source bytes, which settle contention (R158). -/
def contentionBits : Nat := 16

/-- The end of an attempt from the bits driven and the bits read, the first of them at position `at`: lost
at a dominant bit read for a recessive one in the contention bytes, collided at any other mismatch,
completed without one (R158). -/
def judgeBits : Nat → List Bool → List Bool → AttemptEnd
  | _, [], _ => .completed
  | _, _ :: _, [] => .completed
  | pos, d :: ds, r :: rs =>
    if d = r then judgeBits (pos + 1) ds rs
    else if pos < contentionBits ∧ d = true then .lost
    else .collided

/-- The command that the bits read during an attempt amount to. -/
def attemptCommand (driven read : List Byte) : Instr :=
  match judgeBits 0 (frameBits driven) (frameBits read) with
  | .lost => .frameLost
  | .collided => .frameCollided
  | .completed => .frameCompleted

end Sys2Proof.Machine
end

