-- ==== Sys2Proof/Machine/Receive.lean ====
section
/-! DEFINITION. From the bytes of a received frame to the command they are (R162, R163, R171), and the bytes of
a frame that another station sends. -/

namespace Sys2Proof.Machine

/-- The byte at a place of a list, 0 beyond its end. -/
def byteAt (bs : List Byte) (i : Nat) : Byte := bs.getD i 0

/-- The 2-byte field at a place, most significant byte first. -/
def halfAt (bs : List Byte) (i : Nat) : Half := byteAt bs i ++ byteAt bs (i + 1)

/-- The 4-byte field at a place, most significant byte first. -/
def wordAt (bs : List Byte) (i : Nat) : Word := halfAt bs i ++ halfAt bs (i + 2)

/-- The command of a valid frame from another station with a known or unknown kind, from its source,
destination and payload (12.1.1, 12.2, R163). -/
def commandOfPayload (kind src dst : Byte) (p : List Byte) : Instr :=
  match kind.toNat with
  | 1 =>
    .demandFrame src dst (byteAt p 0) (byteAt p 1) (byteAt p 2)
      ⟨wordAt p 3, wordAt p 7, wordAt p 11, wordAt p 15⟩
  | 2 => .supplyFrame src dst (byteAt p 0) (wordAt p 1)
  | 6 => .target src dst (byteAt p 0) (byteAt p 1) (byteAt p 2) (halfAt p 3)
  | 7 => .profile src dst (byteAt p 0) (byteAt p 1) (byteAt p 2) (byteAt p 3)
  | 8 => .ceiling src dst (byteAt p 0) (byteAt p 1) (halfAt p 2)
  | 9 => .freeze src dst (byteAt p 0) (byteAt p 1)
  | 10 => .commit src dst
  | 11 => .clearFeeder src dst (byteAt p 0) (byteAt p 1)
  | 12 => .release src dst (byteAt p 0) (byteAt p 1)
  | 13 => .restart src dst (byteAt p 0)
  | 14 => .flush src dst
  | 15 => .query src dst (byteAt p 0) (byteAt p 1) (byteAt p 2) (byteAt p 3)
  | _ => .otherFrame src kind dst

/-- The kind is that of a DEMAND or a SUPPLY, which are dispatched whatever their destination (R163). -/
def dispatchedAnywhere (kind : Byte) : Bool := kind == 1 || kind == 2

/-- The command that the bytes of a received frame are to a station of a given number: a link reject when a
check fails (R162), a conflict frame when the source is the station's own number (R64), a frame for no
block when it is a request for another station (R163), and otherwise the command of its kind. -/
def commandOfFrame (own : Nat) (bs : List Byte) : Instr :=
  if validFrame bs = false then .linkReject bs
  else
    let src := byteAt bs 1
    let kind := byteAt bs 2
    let dst := byteAt bs 3
    if src.toNat = own then .conflictFrame
    else if dispatchedAnywhere kind || dst.toNat == own || dst.toNat == 255 then
      commandOfPayload kind src dst ((bs.drop 5).take (byteAt bs 4).toNat)
    else .otherFrame src kind dst

/-- A frame from another station: its kind code, source, destination and payload, for the commands that
are frames with contents (12.1.1, 12.2). -/
def sentFrame : Instr → Option (Nat × Byte × Byte × List Byte)
  | .demandFrame src dst w st fl d =>
    some (1, src, dst, [w, st, fl] ++ d.toList.flatMap fun x => beBytes 4 x.toNat)
  | .supplyFrame src dst g c => some (2, src, dst, [g] ++ beBytes 4 c.toNat)
  | .target src dst tag ch fl v => some (6, src, dst, [tag, ch, fl] ++ beBytes 2 v.toNat)
  | .profile src dst tag ch fl i => some (7, src, dst, [tag, ch, fl, i])
  | .ceiling src dst tag ch v => some (8, src, dst, [tag, ch] ++ beBytes 2 v.toNat)
  | .freeze src dst tag ch => some (9, src, dst, [tag, ch])
  | .commit src dst => some (10, src, dst, [])
  | .clearFeeder src dst tag ch => some (11, src, dst, [tag, ch])
  | .release src dst tag ch => some (12, src, dst, [tag, ch])
  | .restart src dst tag => some (13, src, dst, [tag])
  | .flush src dst => some (14, src, dst, [])
  | .query src dst tag subject p1 p2 => some (15, src, dst, [tag, subject, p1, p2])
  | .pinReset => none
  | .resetNRise => none
  | .readTransaction _ => none
  | .transactionTimeout => none
  | .retryWait => none
  | .restartBegins => none
  | .flowPulse => none
  | .flowSample => none
  | .idleTimerExpiry => none
  | .lineChange _ _ _ => none
  | .settleTimerExpiry => none
  | .doseUpdate _ => none
  | .analyzerMessage _ => none
  | .messageGap => none
  | .freshnessTimerExpiry _ => none
  | .alertTimerExpiry _ _ => none
  | .runOnTimerExpiry _ => none
  | .quietTimerExpiry _ => none
  | .strokeIntervalExpiry _ => none
  | .confirm _ => none
  | .deadlineExpiry _ => none
  | .graceDeadlineExpiry _ => none
  | .announceExpiry => none
  | .conflictFrame => none
  | .otherFrame _ _ _ => none
  | .linkReject _ => none
  | .transmitAttempt => none
  | .frameLost => none
  | .frameCollided => none
  | .frameCompleted => none
  | .reportTimerExpiry => none
  | .packingTest => none
  | .receivedByteOnAnz _ => none

/-- The bytes on the line of a frame command, at any priority its sender gives it (12.1). -/
def sentBytes (priority : Byte) (i : Instr) : Option (List Byte) :=
  (sentFrame i).map fun f =>
    withCrc (frameHead priority.toNat f.2.1.toNat f.1 f.2.2.1 f.2.2.2)

end Sys2Proof.Machine
end

