-- ==== Sys2Proof/Machine/Dispatch.lean ====
section
/-! DEFINITION. What each command does: one arm for each constructor of `Instr`, one call of its meaning. -/

namespace Sys2Proof.Machine

def exec (i : Instr) (s : State) : Host.Outcome State Fault Refusal :=
  match i with
  | .pinReset => Sys2Proof.Machine.execPinReset s
  | .resetNRise => Sys2Proof.Machine.execResetNRise s
  | .readTransaction r => Sys2Proof.Machine.execReadTransaction r s
  | .transactionTimeout => Sys2Proof.Machine.execTransactionTimeout s
  | .retryWait => Sys2Proof.Machine.execRetryWait s
  | .restartBegins => Sys2Proof.Machine.execRestartBegins s
  | .flowPulse => Sys2Proof.Machine.execFlowPulse s
  | .flowSample => Sys2Proof.Machine.execFlowSample s
  | .idleTimerExpiry => Sys2Proof.Machine.execIdleTimerExpiry s
  | .lineChange p0 p1 p2 => Sys2Proof.Machine.execLineChange p0 p1 p2 s
  | .settleTimerExpiry => Sys2Proof.Machine.execSettleTimerExpiry s
  | .doseUpdate ch => Sys2Proof.Machine.execDoseUpdate ch s
  | .analyzerMessage m => Sys2Proof.Machine.execAnalyzerMessage m s
  | .messageGap => Sys2Proof.Machine.execMessageGap s
  | .freshnessTimerExpiry a => Sys2Proof.Machine.execFreshnessTimerExpiry a s
  | .alertTimerExpiry ch which => Sys2Proof.Machine.execAlertTimerExpiry ch which s
  | .runOnTimerExpiry ch => Sys2Proof.Machine.execRunOnTimerExpiry ch s
  | .quietTimerExpiry ch => Sys2Proof.Machine.execQuietTimerExpiry ch s
  | .strokeIntervalExpiry ch => Sys2Proof.Machine.execStrokeIntervalExpiry ch s
  | .confirm ch => Sys2Proof.Machine.execConfirm ch s
  | .deadlineExpiry ch => Sys2Proof.Machine.execDeadlineExpiry ch s
  | .graceDeadlineExpiry ch => Sys2Proof.Machine.execGraceDeadlineExpiry ch s
  | .announceExpiry => Sys2Proof.Machine.execAnnounceExpiry s
  | .demandFrame src dst weight state flags demand => Sys2Proof.Machine.execDemandFrame src dst weight state flags demand s
  | .supplyFrame src dst group capacity => Sys2Proof.Machine.execSupplyFrame src dst group capacity s
  | .conflictFrame => Sys2Proof.Machine.execConflictFrame s
  | .otherFrame src kind dst => Sys2Proof.Machine.execOtherFrame src kind dst s
  | .linkReject bytes => Sys2Proof.Machine.execLinkReject bytes s
  | .target src dst tag ch flags value => Sys2Proof.Machine.execTarget src dst tag ch flags value s
  | .profile src dst tag ch flags index => Sys2Proof.Machine.execProfile src dst tag ch flags index s
  | .ceiling src dst tag ch value => Sys2Proof.Machine.execCeiling src dst tag ch value s
  | .freeze src dst tag ch => Sys2Proof.Machine.execFreeze src dst tag ch s
  | .commit src dst => Sys2Proof.Machine.execCommit src dst s
  | .clearFeeder src dst tag ch => Sys2Proof.Machine.execClearFeeder src dst tag ch s
  | .release src dst tag ch => Sys2Proof.Machine.execRelease src dst tag ch s
  | .restart src dst tag => Sys2Proof.Machine.execRestart src dst tag s
  | .flush src dst => Sys2Proof.Machine.execFlush src dst s
  | .query src dst tag subject p1 p2 => Sys2Proof.Machine.execQuery src dst tag subject p1 p2 s
  | .transmitAttempt => Sys2Proof.Machine.execTransmitAttempt s
  | .frameLost => Sys2Proof.Machine.execFrameLost s
  | .frameCollided => Sys2Proof.Machine.execFrameCollided s
  | .frameCompleted => Sys2Proof.Machine.execFrameCompleted s
  | .reportTimerExpiry => Sys2Proof.Machine.execReportTimerExpiry s
  | .packingTest => Sys2Proof.Machine.execPackingTest s
  | .receivedByteOnAnz b => Sys2Proof.Machine.execReceivedByteOnAnz b s

end Sys2Proof.Machine
end

