-- ==== Sys2Proof/Machine/Idle.lean ====
section
/-! DEFINITION. Time (DESIGN CHOICE, assumption 1): which expiries are due, and what a millisecond does to every
running timer. -/

namespace Sys2Proof.Machine

/-- A command when its timer is due. -/
def dueIf (t : Timer) (c : Instr) : List Instr := if t.due then [c] else []

/-- The front entry of a list is MISSED and its grace deadline is reached. -/
def graceDue : List Stroke → Bool
  | [] => false
  | e :: _ => e.state == .missed && e.deadline == 0

/-- The expiries due on a channel. -/
def Channel.dueCommands (c : Channel) (k : Fin 4) : List Instr :=
  dueIf c.dose.timer (.doseUpdate k) ++ dueIf c.feeder.timer (.strokeIntervalExpiry k)
    ++ dueIf c.sup.tL (.alertTimerExpiry k .low) ++ dueIf c.sup.tH (.alertTimerExpiry k .high)
    ++ dueIf c.sup.tHH (.alertTimerExpiry k .highHigh)
    ++ dueIf c.sup.runOnTimer (.runOnTimerExpiry k) ++ dueIf c.sup.quietTimer (.quietTimerExpiry k)
    ++ (if deadlineDue c.feeder.strokes then [.deadlineExpiry k] else [])
    ++ (if graceDue c.feeder.strokes then [.graceDeadlineExpiry k] else [])

/-- The numbers of the analyzers. -/
def analyzerNumbers : List (Fin 8) := [0, 1, 2, 3, 4, 5, 6, 7]

/-- The Loader's timer: the limit of a transaction, or the wait before a retry (R165). -/
def Loader.dueCommands (l : Loader) : List Instr :=
  match l.phase with
  | .idle => []
  | .reading => dueIf l.timer .transactionTimeout
  | .waiting => dueIf l.timer .retryWait

/-- Every expiry that is due. -/
def State.dueCommands (s : State) : List Instr :=
  s.loader.dueCommands ++ dueIf s.flow.sampleTimer .flowSample
    ++ dueIf s.flow.idleTimer .idleTimerExpiry ++ dueIf s.selector.timer .settleTimerExpiry
    ++ dueIf s.intake.gapTimer .messageGap
    ++ analyzerNumbers.flatMap (fun a => dueIf (s.intake.records.get a).timer (.freshnessTimerExpiry a))
    ++ channelNumbers.flatMap (fun k => (s.channel k).dueCommands k)
    ++ dueIf s.peer.timer .announceExpiry ++ dueIf s.recs.timer .reportTimerExpiry

/-- The next expiry to be taken, when one is due. Of several that are due together, whose order the manual
leaves open, a free choice picks one (DESIGN CHOICE, assumption 2). -/
def nextExpiry (s : State) : Option (Instr × State) :=
  match s.dueCommands with
  | [] => none
  | [c] => some (c, s)
  | c :: d :: cs => some ((c :: d :: cs).getD (s.choice % (cs.length + 2)) c, s.choiceRead)

/-- A millisecond on a channel. -/
def Channel.elapse (c : Channel) : Channel :=
  { c with
    dose := { c.dose with timer := c.dose.timer.elapse }
    feeder :=
      { c.feeder with
        timer := c.feeder.timer.elapse
        strokes := c.feeder.strokes.map fun e => { e with deadline := e.deadline - 1 } }
    sup :=
      { c.sup with
        tL := c.sup.tL.elapse
        tH := c.sup.tH.elapse
        tHH := c.sup.tHH.elapse
        runOnTimer := c.sup.runOnTimer.elapse
        quietTimer := c.sup.quietTimer.elapse } }

/-- A millisecond: every running timer and every stroke deadline counts down. -/
def State.elapse (s : State) : State :=
  { s with
    loader := { s.loader with timer := s.loader.timer.elapse }
    flow :=
      { s.flow with
        sampleTimer := s.flow.sampleTimer.elapse
        idleTimer := s.flow.idleTimer.elapse }
    selector := { s.selector with timer := s.selector.timer.elapse }
    intake :=
      { s.intake with
        records := Eight.ofFn fun a =>
          let r := s.intake.records.get a
          { r with timer := r.timer.elapse }
        gapTimer := s.intake.gapTimer.elapse }
    channels := Four.ofFn fun k => (s.channel k).elapse
    peer := { s.peer with timer := s.peer.timer.elapse }
    recs := { s.recs with timer := s.recs.timer.elapse } }

end Sys2Proof.Machine
end

