-- ==== Sys2Proof/Machine/Step.lean ====
section
/-! DEFINITION. One step of the part: the command at the front of the queue, or, on an empty queue, the
passage of time (Machine/Idle.lean). -/

namespace Sys2Proof.Machine

/-- One step. The command at the front of the queue is taken whole. On an empty queue an expiry that is due
is taken, and when none is due one millisecond passes (DESIGN CHOICE, assumption 1). -/
def step (s : State) : Host.Outcome State Fault Refusal :=
  match s.pending with
  | c :: rest => exec c { s with pending := rest }
  | [] =>
    match nextExpiry s with
    | some (c, s') => exec c s'
    | none => .next s.elapse

/-- The state with the command that a word of the table spells put at the front of its queue; the table
gives no row any bits, so no word spells one. -/
def State.withFetchWord (s : State) (nbits w : Nat) : State :=
  match decodeTableWord nbits w with
  | some c => { s with pending := c :: s.pending }
  | none => s

end Sys2Proof.Machine
end

