-- ==== Sys2Proof/Machine/Layout.lean ====
section
/-! DEFINITION. The layouts of Chapter 12 read from the bytes: where each configured value stands in an image
(12.6), what an image must satisfy (11.2), and where each figure stands in a frame that the part drives (12.3,
12.4). No meaning reads this file: it says independently, byte by byte from an offset, what Image.lean takes from
the bytes and Formats.lean puts into them. -/

namespace Sys2Proof.Machine

/-! ### Numbers at an offset, most significant byte first (0.6.5) -/

/-- The byte at an offset. -/
def octetAt (bs : List Byte) (o : Nat) : Nat := (bs.getD o 0).toNat

/-- The 2-byte number at an offset. -/
def pairAt (bs : List Byte) (o : Nat) : Nat := 256 * octetAt bs o + octetAt bs (o + 1)

/-- The 4-byte number at an offset. -/
def quadAt (bs : List Byte) (o : Nat) : Nat := 65536 * pairAt bs o + pairAt bs (o + 2)

/-! ### The configuration image (11.2, 12.6) -/

/-- The station block of an image: bytes 3 to 20 (12.6). -/
def StationConfig.StoredIn (c : StationConfig) (bs : List Byte) : Prop :=
  c.number = octetAt bs 3 ∧ c.weight = octetAt bs 4 ∧ c.reserveShare = pairAt bs 5 ∧
    c.announcePeriod = octetAt bs 7 ∧ c.silenceLimit = octetAt bs 8 ∧ c.litresPerPulse = pairAt bs 9 ∧
    c.idleTime = pairAt bs 11 ∧ c.settleTime = octetAt bs 13 ∧ c.reportInterval = pairAt bs 14 ∧
    c.packingCount = octetAt bs 16 ∧ c.analyzerTimeout = pairAt bs 17 ∧
    c.linkThreshold = octetAt bs 19 ∧ c.announceThreshold = octetAt bs 20

/-- A configured channel's block from an offset: 41 bytes of settings and 80 of profiles (12.6). The fields that
belong to the other kind are not read (R166) and held as 0 (DESIGN CHOICE, assumption 23). -/
def ChannelConfig.SettingsAt (c : ChannelConfig) (bs : List Byte) (o : Nat) : Prop :=
  let chlorine := fun n => if c.kind = .chlorine then n else 0
  (c.group.val = octetAt bs (o + 1)) ∧
    (octetAt bs (o + 2) = 255 ∧ c.analyzer = none ∨ ∃ a, octetAt bs (o + 2) = a.val ∧ c.analyzer = some a) ∧
    c.vs = quadAt bs (o + 3) ∧ c.sp = pairAt bs (o + 7) ∧ c.tmin = pairAt bs (o + 9) ∧
    c.confirmWindow = pairAt bs (o + 11) ∧ c.missLimit = octetAt bs (o + 13) ∧
    c.nativeCeiling = pairAt bs (o + 14) ∧ c.volume = quadAt bs (o + 16) ∧
    c.historyStep = chlorine (octetAt bs (o + 20)) ∧ c.lowLimit = chlorine (pairAt bs (o + 21)) ∧
    c.lowRecovery = chlorine (pairAt bs (o + 23)) ∧ c.highLimit = chlorine (pairAt bs (o + 25)) ∧
    c.highRecovery = chlorine (pairAt bs (o + 27)) ∧ c.hhLimit = chlorine (pairAt bs (o + 29)) ∧
    c.tL = chlorine (pairAt bs (o + 31)) ∧ c.tH = chlorine (pairAt bs (o + 33)) ∧
    c.tHH = chlorine (pairAt bs (o + 35)) ∧ c.runOnTime = octetAt bs (o + 37) ∧
    c.feedThreshold = octetAt bs (o + 38) ∧ c.shareThreshold = octetAt bs (o + 39) ∧
    c.samplesThreshold = octetAt bs (o + 40) ∧
    ∀ i : Fin 8, let p := o + 41 + 10 * i.val
      c.profiles.get i = if c.kind = .chlorine then ⟨0, 0, 0, pairAt bs (p + 6), pairAt bs (p + 8)⟩
        else ⟨pairAt bs p, pairAt bs (p + 2), pairAt bs (p + 4), 0, 0⟩

/-- A channel block from an offset, opened by its kind: NONE 0, COAGULANT 1, CHLORINE 2. Of a NONE block only the
kind is read (R166). -/
def ChannelConfig.StoredAt (c : ChannelConfig) (bs : List Byte) (o : Nat) : Prop :=
  (octetAt bs o = 0 ∧ c = ChannelConfig.unconfigured) ∨
    (octetAt bs o = 1 ∧ c.kind = .coagulant ∧ c.SettingsAt bs o) ∨
    (octetAt bs o = 2 ∧ c.kind = .chlorine ∧ c.SettingsAt bs o)

/-- Every configured value of an image stands at its place in the bytes (12.6). -/
def Image.StoredIn (im : Image) (bs : List Byte) : Prop :=
  im.station.StoredIn bs ∧
    (∀ g : Fin 4, im.groups.get g = ⟨quadAt bs (21 + 8 * g.val), quadAt bs (25 + 8 * g.val)⟩) ∧
    ∀ k : Fin 4, (im.channel k).StoredAt bs (53 + 121 * k.val)

/-- The ranges of the station block (12.6). -/
def StationConfig.InRange (c : StationConfig) : Prop :=
  c.number ≤ 31 ∧ 1 ≤ c.weight ∧ c.weight ≤ 15 ∧ c.reserveShare ≤ 1000 ∧ 1 ≤ c.announcePeriod ∧
    c.announcePeriod ≤ 8 ∧ 3 ≤ c.silenceLimit ∧ c.silenceLimit ≤ 20 ∧ 1 ≤ c.litresPerPulse ∧
    c.litresPerPulse ≤ 10000 ∧ 10 ≤ c.idleTime ∧ c.idleTime ≤ 3600 ∧ 1 ≤ c.settleTime ∧ c.settleTime ≤ 60 ∧
    10 ≤ c.reportInterval ∧ c.reportInterval ≤ 3600 ∧ 1 ≤ c.packingCount ∧ c.packingCount ≤ 3 ∧
    5 ≤ c.analyzerTimeout ∧ c.analyzerTimeout ≤ 600 ∧ c.linkThreshold ≤ 100 ∧ c.announceThreshold ≤ 100

/-- The ranges and cross-field conditions of a configured channel's block (R15, R23, R113, R166, 12.6). -/
def ChannelConfig.InRange (c : ChannelConfig) : Prop :=
  100 ≤ c.vs ∧ c.vs ≤ 100000 ∧ 1 ≤ c.sp ∧ c.sp ≤ 2000 ∧ 100 ≤ c.tmin ∧ c.tmin ≤ 60000 ∧
    50 ≤ c.confirmWindow ∧ c.confirmWindow ≤ 5000 ∧ 1 ≤ c.missLimit ∧ c.missLimit ≤ 8 ∧
    1 ≤ c.nativeCeiling ∧ c.nativeCeiling ≤ 20000 ∧ c.volume ≤ 50000000 ∧ c.runOnTime ≤ 60 ∧
    c.feedThreshold ≤ 100 ∧ c.shareThreshold ≤ 100 ∧ c.samplesThreshold ≤ 100 ∧
    1 ≤ c.vs * c.sp / 1000 ∧ 1 ≤ c.vs * c.sp / 1000 * 1000 / c.tmin ∧
    (c.kind = .coagulant → ∀ i, let p := c.profiles.get i
      p.b ≤ 20000 ∧ p.k ≤ 10000 ∧ p.s ≤ 2000) ∧
    (c.kind = .chlorine → (∀ i, let p := c.profiles.get i
        p.rt ≤ 1000 ∧ p.e0 ≤ 20000 ∧ p.e0 ≤ c.nativeCeiling) ∧
      1 ≤ c.historyStep ∧ c.historyStep ≤ 100 ∧ c.lowLimit ≤ 1000 ∧ c.lowRecovery ≤ 1000 ∧
      c.highLimit ≤ 1000 ∧ c.highRecovery ≤ 1000 ∧ c.hhLimit ≤ 1000 ∧ c.tL ≤ 600 ∧ c.tH ≤ 600 ∧
      c.tHH ≤ 600 ∧ c.lowLimit < c.lowRecovery ∧ c.highRecovery < c.highLimit ∧ c.highLimit < c.hhLimit ∧
      c.lowLimit < c.highLimit)

/-- Every field that is read lies in its range, and the cross-field conditions hold (R166). -/
def Image.InRange (im : Image) : Prop :=
  im.station.InRange ∧
    (∀ g : Fin 4, (im.groups.get g).maxCapacity ≤ 16000000 ∧
      (im.groups.get g).fallback ≤ (im.groups.get g).maxCapacity) ∧
    ∀ k : Fin 4, (im.channel k).kind ≠ .none → (im.channel k).InRange

/-! ### What the part sends (12.3, 12.4)

A figure stands in its field modulo the width of the field. -/

/-- A flag in its place of a flag byte. -/
def flagIn (b : Bool) (weight : Nat) : Nat := if b then weight else 0

/-- The condition word: two bits for each condition, CLEAR 0, ALERT 1, ACTIVE 2 (12.1.1). -/
def wordOfConditions (low high highHigh runOn feederFault stale : Cond) : Nat :=
  let two := fun c : Cond => match c with | .clear => 0 | .alert => 1 | .active => 2
  two low + 4 * two high + 16 * two highHigh + 64 * two runOn + 256 * two feederFault + 1024 * two stale

/-- A 2-byte value, 0xFFFF for none. -/
def noneOr (v : Option Nat) : Nat := (v.getD 65535) % 65536

/-- What the three station kinds of an ALARM carry in the fields of a channel (12.3). -/
def stationFieldsAt (bs : List Byte) (o : Nat) : Prop :=
  octetAt bs (o + 2) = 255 ∧ octetAt bs (o + 3) = 0 ∧ pairAt bs (o + 4) = 65535 ∧
    octetAt bs (o + 6) = 255 ∧ octetAt bs (o + 7) = 255 ∧ pairAt bs (o + 8) = 0

/-- The 10 bytes of an ALARM (12.3). -/
def Alarm.LaidAt (a : Alarm) (overflow : Bool) (bs : List Byte) (o : Nat) : Prop :=
  octetAt bs (o + 1) = flagIn overflow 1 ∧
    match a with
    | .channel ch cause residual before after low high highHigh runOn feederFault stale =>
      octetAt bs o = 1 ∧ octetAt bs (o + 2) = ch.val ∧ octetAt bs (o + 3) = cause.code ∧
        pairAt bs (o + 4) = noneOr residual ∧ octetAt bs (o + 6) = before.code ∧
        octetAt bs (o + 7) = after.code ∧
        pairAt bs (o + 8) = wordOfConditions low high highHigh runOn feederFault stale
    | .isolationBegun => octetAt bs o = 2 ∧ stationFieldsAt bs o
    | .isolationEnded => octetAt bs o = 3 ∧ stationFieldsAt bs o
    | .addressConflict => octetAt bs o = 4 ∧ stationFieldsAt bs o

/-- The 27 bytes of a dose record (12.3). -/
def DoseRecord.LaidAt (r : DoseRecord) (bs : List Byte) (o : Nat) : Prop :=
  pairAt bs o = r.seq % 65536 ∧ octetAt bs (o + 2) = r.channel.val ∧ octetAt bs (o + 3) = r.state.code ∧
    quadAt bs (o + 4) = r.volume % 2 ^ 32 ∧ quadAt bs (o + 8) = r.granted % 2 ^ 32 ∧
    quadAt bs (o + 12) = r.confirmedMass % 2 ^ 32 ∧ quadAt bs (o + 16) = r.shortfall % 2 ^ 32 ∧
    pairAt bs (o + 20) = r.meanDose % 65536 ∧ pairAt bs (o + 22) = noneOr r.minResidual ∧
    pairAt bs (o + 24) = noneOr r.maxResidual ∧
    octetAt bs (o + 26) = flagIn r.feedLimitSeen 1 + flagIn r.unusableSeen 2 + flagIn r.condActive 4

/-- The 49 bytes of a CHANNEL answer (12.4). -/
def ChannelReport.LaidAt (r : ChannelReport) (bs : List Byte) (o : Nat) : Prop :=
  octetAt bs o = (if r.view = .active then 0 else 1) ∧ octetAt bs (o + 1) = r.kind.code ∧
    octetAt bs (o + 2) = r.group.val ∧ octetAt bs (o + 3) = r.state.code ∧
    pairAt bs (o + 4) = wordOfConditions r.low r.high r.highHigh r.runOn r.feederFault r.stale ∧
    octetAt bs (o + 6) = r.profile.val ∧
    octetAt bs (o + 7) = flagIn r.sourceOverride 1 + flagIn r.profileFromSlot 2 + flagIn r.targetFromSlot 4
      + flagIn r.freeze 8 + flagIn r.feedLimit 16 ∧
    pairAt bs (o + 8) = r.base % 65536 ∧ pairAt bs (o + 10) = noneOr r.target ∧
    pairAt bs (o + 12) = r.cw % 65536 ∧ pairAt bs (o + 14) = r.deff % 65536 ∧
    quadAt bs (o + 16) = r.m % 2 ^ 32 ∧ quadAt bs (o + 20) = r.mCap % 2 ^ 32 ∧
    quadAt bs (o + 24) = r.gch % 2 ^ 32 ∧ pairAt bs (o + 28) = r.estimate % 65536 ∧
    (r.analyzer = none → pairAt bs (o + 30) = 65535 ∧ octetAt bs (o + 32) = 255) ∧
    (∀ x, r.analyzer = some x → pairAt bs (o + 30) = x.value % 65536 ∧
      octetAt bs (o + 32) = if x.quality = .good then 0 else 1) ∧
    quadAt bs (o + 33) = r.ac % 2 ^ 32 ∧ octetAt bs (o + 37) = r.outstanding % 256 ∧
    octetAt bs (o + 38) = r.misses % 256 ∧ pairAt bs (o + 39) = r.issued % 65536 ∧
    pairAt bs (o + 41) = r.confirmed % 65536 ∧ pairAt bs (o + 43) = r.missed % 65536 ∧
    pairAt bs (o + 45) = r.late % 65536 ∧ pairAt bs (o + 47) = r.unexpected % 65536

/-- The 19 bytes of an entry of a PEERS answer (12.4). An entry is STALE from age 3 on (R70). -/
def PeerEntry.LaidAt (e : PeerEntry) (bs : List Byte) (o : Nat) : Prop :=
  octetAt bs o = e.number % 256 ∧ octetAt bs (o + 1) = e.weight % 256 ∧
    octetAt bs (o + 2) =
      (e.state.code + flagIn e.healthWarning 4 + flagIn (decide (3 ≤ e.age)) 8 + 16 * e.age) % 256 ∧
    ∀ g : Fin 4, quadAt bs (o + 3 + 4 * g.val) = e.demand.get g % 2 ^ 32

/-- The 21 bytes of a LOCKOUT answer with a record present (12.4). -/
def Lockout.LaidAt (l : Lockout) (bs : List Byte) (o : Nat) : Prop :=
  octetAt bs o = 1 ∧ octetAt bs (o + 1) = l.cause.code ∧
    65536 * quadAt bs (o + 2) + pairAt bs (o + 6) = l.v % 2 ^ 48 ∧ octetAt bs (o + 8) = l.profile.val ∧
    pairAt bs (o + 9) = l.deff % 65536 ∧ quadAt bs (o + 11) = l.gch % 2 ^ 32 ∧
    pairAt bs (o + 15) = l.estimate % 65536 ∧ pairAt bs (o + 17) = noneOr l.lastResidual ∧
    octetAt bs (o + 19) = l.outstanding % 256 ∧
    octetAt bs (o + 20) =
      flagIn l.additionalHighHigh 1 + flagIn l.additionalRunOn 2 + flagIn l.released 4

/-- The 6 bytes of an attribute of a HEALTH answer: the raw count stops at 16,777,215 (12.4). -/
def Attr.LaidAt (a : Attr) (bs : List Byte) (o : Nat) : Prop :=
  octetAt bs o = a.value % 256 ∧ octetAt bs (o + 1) = a.worst % 256 ∧ octetAt bs (o + 2) = a.threshold % 256 ∧
    65536 * octetAt bs (o + 3) + pairAt bs (o + 4) = min 16777215 a.raw

/-- What follows the three opening bytes of an ANSWER, from an offset, in a payload of n bytes (12.4). -/
def AnswerContent.LaidAt (x : AnswerContent) (bs : List Byte) (o n : Nat) : Prop :=
  match x with
  | .plain => n = 3
  | .value v => n = 5 ∧ pairAt bs o = noneOr v
  | .channel r => n = 53 ∧ octetAt bs o = 1 ∧ r.LaidAt bs (o + 1)
  | .station state silence warning groups =>
    n = 55 ∧ octetAt bs o = 2 ∧ octetAt bs (o + 1) = state.code ∧ octetAt bs (o + 2) = silence % 256 ∧
      octetAt bs (o + 3) = flagIn warning 1 ∧
      ∀ g : Fin 4, let p := o + 4 + 12 * g.val
        quadAt bs p = (groups.get g).capacity % 2 ^ 32 ∧ quadAt bs (p + 4) = (groups.get g).dOwn % 2 ^ 32 ∧
          quadAt bs (p + 8) = (groups.get g).gStation % 2 ^ 32
  | .peers count entries =>
    n = 5 + 19 * entries.length ∧ octetAt bs o = 3 ∧ octetAt bs (o + 1) = count % 256 ∧
      ∀ (i : Nat) (e : PeerEntry), entries[i]? = some e → e.LaidAt bs (o + 2 + 19 * i)
  | .lockout r =>
    n = 25 ∧ octetAt bs o = 4 ∧ (r = none → ∀ i, i < 21 → octetAt bs (o + 1 + i) = 0) ∧
      ∀ l, r = some l → l.LaidAt bs (o + 1)
  | .health h warning =>
    n = 88 ∧ octetAt bs o = 5 + flagIn warning 128 ∧
      (∀ k : Fin 4, let c := h.channels.get k; let p := o + 1 + 18 * k.val
        c.feed.LaidAt bs p ∧ c.share.LaidAt bs (p + 6) ∧ c.samples.LaidAt bs (p + 12)) ∧
      h.link.LaidAt bs (o + 73) ∧ h.announce.LaidAt bs (o + 79)

/-- A frame of the transmit queue, byte by byte: priority, source, kind, destination, payload length, its payload
from byte 5 on, and the CRC of all of it (12.1, 12.3, 12.4, 10.1). -/
def Body.LaidOut (b : Body) (source : Nat) (overflow : Bool) (bs : List Byte) : Prop :=
  let n := octetAt bs 4
  bs.length = n + 7 ∧ pairAt bs (n + 5) = (crc16 (bs.take (n + 5))).toNat ∧ octetAt bs 1 = source ∧
    match b with
    | .alarm a => octetAt bs 0 = 1 ∧ octetAt bs 2 = 3 ∧ octetAt bs 3 = 255 ∧ n = 10 ∧ a.LaidAt overflow bs 5
    | .answer a =>
      octetAt bs 0 = 4 ∧ octetAt bs 2 = 4 ∧ octetAt bs 3 = a.dst.toNat ∧ octetAt bs 5 = a.tag.toNat ∧
        octetAt bs 6 = (16 * a.kind + a.result.code) % 256 ∧ octetAt bs 7 = a.channel.toNat ∧
        a.content.LaidAt bs 8 n
    | .records rs =>
      octetAt bs 0 = 6 ∧ octetAt bs 2 = 5 ∧ octetAt bs 3 = 255 ∧ n = 27 * rs.length ∧
        ∀ (i : Nat) (r : DoseRecord), rs[i]? = some r → r.LaidAt bs (5 + 27 * i)

/-- A frame that the part may queue: a RECORDS frame holds one to three records, a PEERS answer at most four
entries (R144, R149, R152). -/
def Body.Fits (b : Body) : Prop :=
  (∀ rs, b = .records rs → 1 ≤ rs.length ∧ rs.length ≤ 3) ∧
    ∀ a count entries, b = .answer a → a.content = .peers count entries → entries.length ≤ 4

end Sys2Proof.Machine
end

