-- ==== Sys2Proof/Safety.lean ====
section
/-! DEFINITION. What a sound state of the part is: the laws that the manual says every state obeys, each as a
property of one state that every step keeps. -/

namespace Sys2Proof.Machine

/-! ### Outputs -/

/-- Each drive inhibit and the FAULT output stand at the level their cause gives (R106, R128). -/
def State.OutputsFollow (s : State) : Prop :=
  (∀ k, (s.channel k).feeder.inh = inhibitLevel s.stn (s.channel k).state) ∧
    s.faultOut = s.faultLevel

/-! ### Service, LOAD and HALTED -/

/-- The timers of a Channel Supervisor are stopped and it holds no residual, as outside service (R110). -/
def Supervisor.Resting (p : Supervisor) : Prop :=
  p.tL = none ∧ p.tH = none ∧ p.tHH = none ∧ p.runOnTimer = none ∧ p.quietTimer = none ∧
    p.lastResidual = none

/-- The interval counters of the station for LINK and ANNOUNCE stand at 0 (R145). -/
def RecordBuilder.Uncounted (r : RecordBuilder) : Prop :=
  r.accepted = 0 ∧ r.rejected = 0 ∧ r.built = 0 ∧ r.sent = 0 ∧ r.coalesced = 0

/-- The blocks are in their held condition, every interval counter at 0 (R1, R34, R57, R75, R92, R110, R145, R156). -/
def State.BlocksHeld (s : State) : Prop :=
  s.flow = FlowUnit.held ∧ s.selector = Selector.held ∧ s.intake = SampleIntake.held ∧
    s.peer = PeerView.held ∧ s.share = Four.all GrantRecord.zero ∧ s.link = s.link.afterReset ∧
    s.recs.timer = none ∧ s.recs.queue = [] ∧ s.recs.Uncounted ∧ s.restartPending = false ∧
    ∀ k, (s.channel k).dose = DoseEngine.held ∧ (s.channel k).feeder = FeederDrive.held ∧
      (s.channel k).iv = Interval.zero ∧ (s.channel k).sup.Resting

/-- What the part is doing agrees with its station state: a read is in hand only in LOAD, none while
RESET_N is low; a station in service holds a valid image, a HALTED one none; outside service every block
is held (R165, R166, R167). -/
def State.PhaseSound (s : State) : Prop :=
  (s.resetN = false → s.stn = .load ∧ s.loader.phase = .idle) ∧
    (s.loader.phase ≠ .idle → s.stn = .load) ∧
    (s.stn.inService = true → s.config.isSome = true) ∧
    (s.stn = .halted → s.config = none) ∧
    (∀ im, s.config = some im → im.valid = true) ∧
    (s.stn.inService = false → s.BlocksHeld)

/-! ### Flow -/

/-- The Flow Unit stays within its ranges and Q is the mean of the ring (1.1, R5, R6). -/
def FlowUnit.Sound (f : FlowUnit) : Prop :=
  f.pulseCount ≤ top16 ∧ (∀ i, f.ring.get i ≤ 40000) ∧ f.q = ringMean f.ring ∧ f.v ≤ top48

/-! ### Dose -/

/-- The law of R22 and R29 on one channel: Deff within Cw, Cw within the native ceiling, Gch within M′, M′
within Mmax, both 0 outside DOSING, and Eest within the native ceiling (R52). -/
def Channel.DoseLaw (cc : ChannelConfig) (c : Channel) : Prop :=
  c.dose.deff ≤ c.dose.cw ∧ c.dose.cw ≤ cc.nativeCeiling ∧ c.dose.gch ≤ c.dose.mCap ∧
    c.dose.mCap ≤ cc.feederCapacity ∧ (c.state ≠ .dosing → c.dose.mCap = 0) ∧
    (cc.kind = .chlorine → c.dose.eest ≤ cc.nativeCeiling)

/-- The dose law on every configured channel in service. -/
def State.DosesLawful (s : State) : Prop :=
  ∀ im, s.service = some im → ∀ k, (im.channel k).configured = true →
    (s.channel k).DoseLaw (im.channel k)

/-! ### Feeder -/

/-- A run of MISSED entries followed by a run of PENDING entries (R99). -/
def missedThenPending : List Stroke → Bool
  | [] => true
  | e :: es => (e.state == .missed || es.all fun x => x.state == .pending) && missedThenPending es

/-- The law of R92, R95 and R99 on one channel: credit within 0 to 4 × m_s and 0 outside DOSING, at most 8
outstanding strokes in the order of R99, the miss count within 255. -/
def Channel.FeederLaw (cc : ChannelConfig) (c : Channel) : Prop :=
  c.feeder.ac ≤ 4 * cc.strokeMass ∧ (c.state ≠ .dosing → c.feeder.ac = 0) ∧
    c.feeder.strokes.length ≤ 8 ∧ missedThenPending c.feeder.strokes = true ∧
    c.feeder.misses ≤ 255

/-- The feeder law on every configured channel in service. -/
def State.FeedersLawful (s : State) : Prop :=
  ∀ im, s.service = some im → ∀ k, (im.channel k).configured = true →
    (s.channel k).FeederLaw (im.channel k)

/-! ### Volume queues -/

/-- The law of R41, R42 and R47 on one channel at a volume V. -/
def Channel.QueueLaw (cc : ChannelConfig) (v : Nat) (c : Channel) : Prop :=
  c.dose.pipeline.length ≤ 16 ∧ c.dose.pipeline.Pairwise (fun a b => a.due ≤ b.due) ∧
    (∀ e ∈ c.dose.pipeline, e.due ≤ dueVolume v cc.volume) ∧
    c.dose.history.length ≤ 8 ∧ c.dose.history.Pairwise (fun a b => a.mark < b.mark) ∧
    ∀ e ∈ c.dose.history, e.mark ≤ v

/-- The law of the volume queues on every configured channel in service. -/
def State.QueuesLawful (s : State) : Prop :=
  ∀ im, s.service = some im → ∀ k, (im.channel k).configured = true →
    (s.channel k).QueueLaw (im.channel k) s.flow.v

/-! ### Protection -/

/-- Each channel's state is the one its conditions and the idle flag give, OFF for kind NONE (R111). -/
def State.StatesDerived (s : State) : Prop :=
  ∀ im, s.service = some im → ∀ k,
    (s.channel k).state =
      if (im.channel k).configured then (s.channel k).sup.derive s.flow.idle else .off

/-- An alert or run-on timer runs exactly while its condition is in ALERT; FEEDER FAULT and ANALYZER STALE
have no ALERT (R114, R115, R117, R118, R119, R120). -/
def Supervisor.TimersMatch (p : Supervisor) : Prop :=
  (p.low = .alert ↔ p.tL.isSome = true) ∧ (p.high = .alert ↔ p.tH.isSome = true) ∧
    (p.highHigh = .alert ↔ p.tHH.isSome = true) ∧ (p.runOn = .alert ↔ p.runOnTimer.isSome = true) ∧
    p.feederFault ≠ .alert ∧ p.stale ≠ .alert

/-- A channel on which a lockout condition is ACTIVE holds the record of that lockout, unreleased, which names
each such condition as its cause or as an additional cause (R121, R122, R123). -/
def Supervisor.LockRecorded (p : Supervisor) : Prop :=
  p.highHigh = .active ∨ p.runOn = .active →
    ∃ r, p.lockout = some r ∧ r.released = false ∧
      (p.highHigh = .active → r.cause = .highHigh ∨ r.additionalHighHigh = true) ∧
      (p.runOn = .active → r.cause = .runOn ∨ r.additionalRunOn = true)

/-! ### Peer view -/

/-- The law of the peer table (R69, R70): ascending station numbers 0 to 31, none of them the station's own,
weights 1 to 15, ages at most 5. -/
def PeerView.TableLaw (p : PeerView) (own : Nat) : Prop :=
  p.table.Pairwise (fun a b => a.number < b.number) ∧
    ∀ e ∈ p.table, e.number ≤ 31 ∧ e.number ≠ own ∧ 1 ≤ e.weight ∧ e.weight ≤ 15 ∧ e.age ≤ 5

/-- The law of a group's source slots (R71, R72): ages at most 5, capacities within the group's maximum, two
different sources. -/
def GroupSlots.Law (g : GroupSlots) (maximum : Nat) : Prop :=
  (∀ x, g.slot0 = some x ∨ g.slot1 = some x → x.age ≤ 5 ∧ x.capacity ≤ maximum) ∧
    ∀ x y, g.slot0 = some x → g.slot1 = some y → x.source ≠ y.source

/-- The law of the two tables in service. -/
def State.TablesLawful (s : State) : Prop :=
  ∀ im, s.service = some im →
    s.peer.TableLaw im.station.number ∧
      ∀ g, (s.peer.capacity.get g).Law (im.groups.get g).maxCapacity

/-! ### Link -/

/-- The transmitter drives a frame of the transmit queue. -/
def Transmitter.drivesEntry : Transmitter → Bool
  | .idle => false
  | .entry _ _ => true
  | .demand _ _ _ => false

/-- The DEMAND that the transmitter drives. -/
def Transmitter.announcement : Transmitter → Option Announcement
  | .idle => none
  | .entry _ _ => none
  | .demand a _ _ => some a

/-- The law of R156: at most 8 entries, collision counts 0 to 2, and one entry IN ATTEMPT exactly while the
transmitter drives a frame of the queue. -/
def Link.Sound (l : Link) : Prop :=
  l.queue.length ≤ 8 ∧ (∀ e ∈ l.queue, e.collisions ≤ 2) ∧
    (∀ a, l.slot = some a ∨ l.tx.announcement = some a → a.collisions ≤ 2) ∧
    (l.queue.filter Entry.inAttempt).length = if l.tx.drivesEntry then 1 else 0

/-- The line is the part's own while the transmitter drives it, so that the receiver takes nothing then (R158, R162);
and the test of R157 is never owed: in JOIN, RUN and ISOLATED no frame waits before a line known to be idle. -/
def State.LineUsed (s : State) : Prop :=
  (s.link.tx ≠ .idle → s.link.line = .own) ∧
    (s.stn.transmits = true → s.link.line = .idle → s.link.slot = none ∧
      ∀ e ∈ s.link.queue, e.inAttempt = true)

/-- The restart-pending flag is set exactly while an awaited ANSWER is in the transmit queue, and only an
ANSWER is awaited (R132, R143). -/
def State.RestartAwaited (s : State) : Prop :=
  s.restartPending = s.link.queue.any Entry.awaited ∧ s.link.awaitedLeft = false ∧
    ∀ e ∈ s.link.queue, e.awaited = true → e.body.priority = 4

/-! ### Records -/

/-- The numbers of the waiting records run on without a gap to the sequence counter (R147, R148). -/
def numberedUpTo (next : Nat) : List DoseRecord → Bool
  | [] => true
  | [r] => nextSeq r.seq == next
  | a :: b :: rest => nextSeq a.seq == b.seq && numberedUpTo next (b :: rest)

/-- The law of the report queue: at most 16 records, numbered without a gap up to the counter, which stays
within 65,535 (R145, R147, R148). -/
def RecordBuilder.Sound (r : RecordBuilder) : Prop :=
  r.queue.length ≤ 16 ∧ r.seq ≤ top16 ∧ numberedUpTo r.seq r.queue = true ∧
    ∀ x ∈ r.queue, x.seq ≤ top16

/-! ### What the statements speak of -/

/-- The fourteen attributes of the health table (R153), in the order of 12.4. -/
def HealthTable.attributes (h : HealthTable) : List Attr :=
  (h.channels.toList.flatMap fun c => [c.feed, c.share, c.samples]) ++ [h.link, h.announce]

/-- The state after a valid frame from another station has been counted and heard (R61, R63, R162, R163). -/
def State.heard (s : State) : State := s.countAccepted.hear

/-- Two states agree but for channel k, the FAULT output, the link and the free choices read: what an event on
one channel may change. -/
def State.EventOn (s t : State) (k : Fin 4) : Prop :=
  t = { s with
    channels := t.channels, faultOut := t.faultOut, link := t.link, freeCount := t.freeCount } ∧
    (∀ j, j ≠ k → t.channel j = s.channel j) ∧ t.faultOut = t.faultLevel

/-- No frame has been queued and no attempt has begun. -/
def State.NothingQueued (s t : State) : Prop := t.link = s.link ∧ t.freeCount = s.freeCount

/-- The link is that of the first state with one frame queued, which may begin its attempt (R157, R160). -/
def State.Queued (s t : State) (b : Body) : Prop :=
  t.link = (s.enqueue b).link ∧ t.freeCount = (s.enqueue b).freeCount

/-- A CHANNEL ALARM with the conditions that a channel shows (R129). -/
def Channel.alarmOf (c : Channel) (k : Fin 4) (cause : AlarmCause) (before : ChannelState) : Body :=
  .alarm (.channel k cause c.sup.lastResidual before c.state c.sup.low c.sup.high c.sup.highHigh
    c.sup.runOn c.sup.feederFault c.sup.stale)

/-- A record captured at entry into LOCKED from a channel as it stood (R122). -/
def Channel.recordOf (cc : ChannelConfig) (c : Channel) (v : Nat) (cause : LockCause) : Lockout :=
  ⟨cause, v, c.dose.activeIndex, c.dose.deff, c.dose.gch,
    if cc.kind = .chlorine then c.dose.eest
    else c.dose.tdp.getD (cc.profiles.get c.dose.activeIndex).k,
    c.sup.lastResidual, c.feeder.strokes.length, false, false, false⟩

end Sys2Proof.Machine
end

