-- ==== Sys2Proof/Certificates/Slice0/Obligations.lean ====
section
/-! DEFINITION. The statements for the provers, in the order of the manual's chapters. In each, `s` is any state
of the part, and the conclusion says both what the command does and what it leaves alone. -/

section Statements

open Sys2Proof Sys2Proof.Machine

/-! ### The queue of commands -/

/-- One step with a command at the front of the queue is that command's meaning on the state with the rest of
the queue. -/
def Obligations.StepTakesTheFrontCommand : Prop :=
  ∀ (c : Instr) (rest : List Instr) (s : State), s.pending = c :: rest →
    step s = exec c { s with pending := rest }

/-- On an empty queue a step takes one of the expiries that are due: those whose timer or deadline stands at 0 ms.
When none is due one millisecond passes: every running timer and every stroke deadline falls by 1 ms, and
nothing else changes. The model's choice (assumptions 1, 2 and 11). -/
def Obligations.AnEmptyQueueLetsTimePass : Prop :=
  ∀ s : State, s.pending = [] →
    (s.dueCommands = [] → ∃ t : State, step s = .next t ∧
      let less := fun x : Timer => x.map fun n => n - 1
      t = { s with
        loader := { s.loader with timer := less s.loader.timer }
        flow :=
          { s.flow with sampleTimer := less s.flow.sampleTimer, idleTimer := less s.flow.idleTimer }
        selector := { s.selector with timer := less s.selector.timer }
        intake :=
          { s.intake with records := t.intake.records, gapTimer := less s.intake.gapTimer }
        channels := t.channels
        peer := { s.peer with timer := less s.peer.timer }
        recs := { s.recs with timer := less s.recs.timer } } ∧
      (∀ a, t.intake.records.get a =
        { s.intake.records.get a with timer := less (s.intake.records.get a).timer }) ∧
      ∀ k, let c := s.channel k
        t.channel k = { c with
          dose := { c.dose with timer := less c.dose.timer }
          feeder :=
            { c.feeder with
              timer := less c.feeder.timer
              strokes := c.feeder.strokes.map fun e => { e with deadline := e.deadline - 1 } }
          sup :=
            { c.sup with
              tL := less c.sup.tL, tH := less c.sup.tH, tHH := less c.sup.tHH
              runOnTimer := less c.sup.runOnTimer, quietTimer := less c.sup.quietTimer } }) ∧
    (s.dueCommands ≠ [] → ∃ c ∈ s.dueCommands, ∃ n, s.freeCount ≤ n ∧ n ≤ s.freeCount + 1 ∧
      step s = exec c { s with freeCount := n }) ∧
    ∀ c, c ∈ s.dueCommands ↔
      (c = .transactionTimeout ∧ s.loader.phase = .reading ∧ s.loader.timer = some 0) ∨
      (c = .retryWait ∧ s.loader.phase = .waiting ∧ s.loader.timer = some 0) ∨
      (c = .flowSample ∧ s.flow.sampleTimer = some 0) ∨
      (c = .idleTimerExpiry ∧ s.flow.idleTimer = some 0) ∨
      (c = .settleTimerExpiry ∧ s.selector.timer = some 0) ∨
      (c = .messageGap ∧ s.intake.gapTimer = some 0) ∨
      (∃ a, c = .freshnessTimerExpiry a ∧ (s.intake.records.get a).timer = some 0) ∨
      (∃ k, c = .doseUpdate k ∧ (s.channel k).dose.timer = some 0) ∨
      (∃ k, c = .strokeIntervalExpiry k ∧ (s.channel k).feeder.timer = some 0) ∨
      (∃ k, c = .alertTimerExpiry k .low ∧ (s.channel k).sup.tL = some 0) ∨
      (∃ k, c = .alertTimerExpiry k .high ∧ (s.channel k).sup.tH = some 0) ∨
      (∃ k, c = .alertTimerExpiry k .highHigh ∧ (s.channel k).sup.tHH = some 0) ∨
      (∃ k, c = .runOnTimerExpiry k ∧ (s.channel k).sup.runOnTimer = some 0) ∨
      (∃ k, c = .quietTimerExpiry k ∧ (s.channel k).sup.quietTimer = some 0) ∨
      (∃ k missed rest, c = .deadlineExpiry k ∧
        (s.channel k).feeder.strokes = missed ++ ⟨.pending, 0⟩ :: rest ∧
        ∀ e ∈ missed, e.state = .missed) ∨
      (∃ k rest, c = .graceDeadlineExpiry k ∧ (s.channel k).feeder.strokes = ⟨.missed, 0⟩ :: rest) ∨
      (c = .announceExpiry ∧ s.peer.timer = some 0) ∨
      (c = .reportTimerExpiry ∧ s.recs.timer = some 0)

/-! ### Start-up (Chapter 11) -/

/-- PIN_RESET takes the part to LOAD with nothing kept: every block held, every inhibit and FAULT asserted, no
lockout record, the sequence counter and every interval counter 0, the health table at its reset values (R1, R22,
R34, R57, R75, R92, R110, R145, R153, R156, R165). The levels of the profile-select lines, the values before a load,
the open analyzer message that is dropped and the line level that is kept are the model's choice (assumptions 4 to 8
and 22). -/
def Obligations.PinResetClearsThePart : Prop :=
  ∀ s : State, ∃ t : State, exec .pinReset s = .next t ∧
    t.resetN = false ∧ t.stn = .load ∧ t.config = none ∧ t.loader = ⟨.idle, .header, 0, none, []⟩ ∧
    t.faultOut = true ∧ t.BlocksHeld ∧
    t.flow = ⟨0, ⟨0, 0, 0, 0⟩, 0, 0, 0, none, none, false⟩ ∧
    t.peer.table = [] ∧ t.link.queue = [] ∧ t.link.slot = none ∧ t.link.tx = .idle ∧
    t.link.overflowDemand = false ∧ t.link.overflowAlarm = false ∧ t.restartPending = false ∧
    t.link.line = s.link.line ∧ t.recs.queue = [] ∧ t.recs.seq = 0 ∧ t.recs.warning = false ∧
    (∀ a ∈ t.recs.health.attributes, a.value = 100 ∧ a.worst = 100 ∧ a.raw = 0) ∧
    (∀ k, (t.channel k).feeder.inh = true ∧ (t.channel k).feeder.ac = 0 ∧
      (t.channel k).feeder.strokes = [] ∧ (t.channel k).dose.freeze = false ∧
      (t.channel k).dose.pipeline = [] ∧ (t.channel k).dose.history = [] ∧
      (t.channel k).sup.low = .clear ∧ (t.channel k).sup.high = .clear ∧
      (t.channel k).sup.highHigh = .clear ∧ (t.channel k).sup.runOn = .clear ∧
      (t.channel k).sup.feederFault = .clear ∧ (t.channel k).sup.stale = .clear ∧
      (t.channel k).sup.lockout = none) ∧
    t.pending = s.pending ∧ t.psel = s.psel

/-- The read of the image (R165): it begins when RESET_N rises, each part read brings the transaction of the
next part with its 25 ms, a failed attempt is made again after 5 ms, three times at most. -/
def Obligations.TheReadGoesOnAndRetries : Prop :=
  (∀ s : State, s.resetN = false → exec .resetNRise s =
    .next { s with resetN := true, loader := ⟨.reading, .header, 0, some 25, []⟩ }) ∧
  (∀ (s : State) (p q : Part) (data : List Byte), s.loader.phase = .reading → s.loader.part = p →
    p.next = some q → data.length = p.size → (p = .header → data = [0x01, 0x02, 0x1B]) →
    exec (.readTransaction (.completed data)) s =
      .next { s with loader := ⟨.reading, q, 0, some 25, s.loader.bytes ++ data⟩ }) ∧
  (∀ (s : State) (c : Instr), s.loader.phase = .reading → s.loader.failures < 3 →
    (c = .readTransaction .failed ∨ (c = .transactionTimeout ∧ s.loader.timer = some 0)) →
    exec c s = .next { s with
      loader :=
        { s.loader with
          phase := .waiting, failures := s.loader.failures + 1, timer := some 5 } }) ∧
  (∀ s : State, s.loader.phase = .waiting → s.loader.timer = some 0 → exec .retryWait s =
    .next { s with loader := { s.loader with phase := .reading, timer := some 25 } })

/-- An image that cannot be read (a fourth failed attempt), has an unusable header, or fails its checks takes
the part to HALTED with every inhibit and FAULT asserted and no configured value left, the health thresholds
among them; lockout records, kept locks, worst values, raw counts and the sequence counter are held (R165, R166,
R167). That a threshold left without a value stands at 0 is the model's choice (assumption 6). -/
def Obligations.ABadImageHaltsThePart : Prop :=
  ∀ (s : State) (c : Instr), s.loader.phase = .reading →
    ((3 ≤ s.loader.failures ∧
        (c = .readTransaction .failed ∨ (c = .transactionTimeout ∧ s.loader.timer = some 0))) ∨
      (∃ data, c = .readTransaction (.completed data) ∧ data.length = s.loader.part.size ∧
        ((s.loader.part = .header ∧ data ≠ [0x01, 0x02, 0x1B]) ∨
          (s.loader.part = .crc ∧ checkImage (s.loader.bytes ++ data) = none)))) →
    ∃ t : State, exec c s = .next t ∧ t.stn = .halted ∧ t.config = none ∧ t.faultOut = true ∧
      t.loader.phase = .idle ∧ t.loader.timer = none ∧
      t = { s with
        stn := t.stn, config := t.config, loader := t.loader, channels := t.channels,
        recs := { s.recs with health := t.recs.health }, faultOut := t.faultOut } ∧
      (∀ k, t.channel k =
        { s.channel k with feeder := { (s.channel k).feeder with inh := true } }) ∧
      t.recs.health.attributes = s.recs.health.attributes.map fun a => { a with threshold := 0 }

/-- A valid image takes the part into service (R2, R15, R22, R24, R34, R58, R93, R153, R166, R168). Valid are 539
bytes whose CRC agrees, whose fields lie in their ranges and whose cross-field conditions hold, and each
configured value is the bytes at its place (`Image.StoredIn`, `Image.InRange` in Machine/Layout.lean; that a
field which is not read is held as 0 is the model's choice, assumption 23). Then JOIN, the selector index from
the lines, every timer of service at its first period, the health thresholds of the image, each configured
channel without a kept lock in DOSING with its inhibit released and its dose state at the start of service,
each channel of kind NONE in OFF, FAULT formed from the channel states, every interval figure 0 and its
condition-active flag set for a kept lock alone (R146). That a channel which the image turns to NONE keeps the
worst values and raw counts it had, with the threshold alone changed, is the model's choice (assumption 26). -/
def Obligations.AValidImageBeginsService : Prop :=
  (∀ (bytes : List Byte) (im : Image), checkImage bytes = some im ↔
    bytes.length = 539 ∧ (crc16 (bytes.take 537)).toNat = pairAt bytes 537 ∧
      im.StoredIn bytes ∧ im.InRange) ∧
  (crc16 [] = 0xFFFF#16 ∧ ∀ (bytes : List Byte) (b : Byte),
    let shift := fun c : BitVec 16 => if c.msb then (c <<< 1) ^^^ 0x1021#16 else c <<< 1
    crc16 (bytes ++ [b]) = shift^[8] (crc16 bytes ^^^ (b.zeroExtend 16 <<< 8))) ∧
  ∀ (s : State) (data : List Byte) (im : Image), s.loader.phase = .reading → s.loader.part = .crc →
    data.length = 2 → checkImage (s.loader.bytes ++ data) = some im →
    ∃ t : State, exec (.readTransaction (.completed data)) s = .next t ∧ t.stn = .join ∧ t.config = some im ∧
      t.loader.phase = .idle ∧
      t.flow = { s.flow with sampleTimer := some 1000, idleTimer := some (im.station.idleTime * 1000) } ∧
      t.selector = ⟨lineIndex s.psel.1 s.psel.2.1 s.psel.2.2, none, none⟩ ∧
      t.selector.index.val = (if s.psel.1 then 1 else 0) + (if s.psel.2.1 then 2 else 0)
        + (if s.psel.2.2 then 4 else 0) ∧
      (∀ a, t.intake.records.get a = ⟨none, true, some (im.station.analyzerTimeout * 1000)⟩) ∧
      t.peer = { s.peer with timer := some (im.station.announcePeriod * 1000) } ∧
      (let h := s.recs.health
      t.recs = { s.recs with
        timer := some (im.station.reportInterval * 1000), health := t.recs.health } ∧
      (∀ k, let x := h.channels.get k
        t.recs.health.channels.get k =
          ⟨{ x.feed with threshold := (im.channel k).feedThreshold },
            { x.share with threshold := (im.channel k).shareThreshold },
            { x.samples with threshold := (im.channel k).samplesThreshold }⟩) ∧
      t.recs.health.link = { h.link with threshold := im.station.linkThreshold } ∧
      t.recs.health.announce = { h.announce with threshold := im.station.announceThreshold }) ∧
      t.link = s.link ∧
      t.pending = s.pending ∧ t.psel = s.psel ∧ t.resetN = s.resetN ∧
      (t.faultOut = true ↔ ∃ k, (t.channel k).state = .faulted ∨ (t.channel k).state = .locked) ∧
      ∀ k, let c := t.channel k; let cc := im.channel k
        (cc.kind = .none → c.state = .off ∧ c.feeder.inh = false ∧ c.dose.timer = none) ∧
        (cc.kind ≠ .none → (s.channel k).sup.highHigh ≠ .active → (s.channel k).sup.runOn ≠ .active →
          c.state = .dosing ∧ c.feeder.inh = false) ∧
        (cc.kind ≠ .none →
          c.dose.activeIndex = t.selector.index ∧ c.dose.cw = cc.nativeCeiling ∧
          c.dose.freeze = false ∧ c.dose.profileOverride = none ∧ c.dose.targetOverride = none ∧
          c.dose.pendingProfile = none ∧ c.dose.pendingTarget = none ∧ c.dose.deff = 0 ∧
          c.dose.m = 0 ∧ c.dose.mCap = 0 ∧ c.dose.gch = 0 ∧ c.dose.tdp = none ∧
          c.dose.pipeline = [] ∧ c.dose.history = [] ∧
          (cc.kind = .chlorine → c.dose.eest = (cc.profiles.get t.selector.index).e0) ∧
          c.dose.timer = some (500 + 125 * k.val) ∧ c.feeder.ac = 0 ∧ c.feeder.strokes = [] ∧
          c.feeder.timer = none ∧ c.sup.quietTimer = none ∧ c.sup.lastResidual = none ∧
          c.iv = { Interval.zero with
            condActive := decide (c.sup.highHigh = .active ∨ c.sup.runOn = .active) }) ∧
        (cc.kind = .none → c.iv = Interval.zero)

/-- What the load makes of a lock that a restart has kept (R106, R130): lockout records are kept; a changed kind
lets every condition go; on the same kind RUN-ON stays, and HIGH-HIGH RESIDUAL stays but for a chlorine
channel with a tHH of 0 s or no analyzer; the channel is LOCKED, with its inhibit asserted, exactly when a
lockout condition is still ACTIVE, and then the first interval is marked as having had a condition ACTIVE
(R146). -/
def Obligations.TheLoadKeepsALock : Prop :=
  ∀ (s : State) (data : List Byte) (old im : Image), s.loader.phase = .reading → s.loader.part = .crc →
    data.length = 2 → checkImage (s.loader.bytes ++ data) = some im → s.config = some old →
    ∃ t : State, exec (.readTransaction (.completed data)) s = .next t ∧
      ∀ k, let p := (s.channel k).sup; let c := t.channel k; let cc := im.channel k
        c.sup.lockout = p.lockout ∧
        ((old.channel k).kind ≠ cc.kind → c.sup.highHigh = .clear ∧ c.sup.runOn = .clear) ∧
        ((old.channel k).kind = cc.kind → cc.kind ≠ .none →
          c.sup.runOn = p.runOn ∧
          c.sup.highHigh = if cc.kind = .chlorine ∧ (cc.tHH = 0 ∨ cc.analyzer = none) then .clear
            else p.highHigh) ∧
        c.sup.low = .clear ∧ c.sup.high = .clear ∧ c.sup.feederFault = .clear ∧ c.sup.stale = .clear ∧
        (cc.kind ≠ .none →
          c.state = (if c.sup.highHigh = .active ∨ c.sup.runOn = .active then .locked else .dosing)) ∧
        (cc.kind = .none → c.state = .off) ∧
        (cc.kind ≠ .none → (c.iv.condActive = true ↔ c.state = .locked)) ∧
        (c.feeder.inh = true ↔ c.state = .locked)

/-- RESTART_BEGINS takes the part from service to LOAD (R13, R130, R143, R145, R165, R169): the read begins at once,
every block is held, its interval counters at 0, and the flag is cleared; lockout records, the sequence counter, worst
values, raw counts and the lock of a LOCKED channel with its lockout conditions are kept. The values before a load,
the lines kept, the open analyzer message that is dropped and the line level that is kept are the model's choice
(assumptions 4 to 8 and 22). -/
def Obligations.ARestartKeepsWhatItMust : Prop :=
  ∀ (s : State) (im : Image), s.service = some im → s.restartPending = true →
    (∃ e ∈ s.link.queue, e.awaited = true) →
    ∃ t : State, exec .restartBegins s = .next t ∧ t.stn = .load ∧ t.restartPending = false ∧
      t.loader = ⟨.reading, .header, 0, some 25, []⟩ ∧ t.BlocksHeld ∧ t.faultOut = true ∧
      t.recs.seq = s.recs.seq ∧ t.recs.warning = false ∧
      (∀ a ∈ t.recs.health.attributes, a.value = 100) ∧
      (t.recs.health.attributes.map fun a => (a.worst, a.raw, a.threshold)) =
        (s.recs.health.attributes.map fun a => (a.worst, a.raw, a.threshold)) ∧
      t.resetN = s.resetN ∧ t.psel = s.psel ∧ t.pending = s.pending ∧
      t.link.line = s.link.line ∧
      ∀ k, let p := (s.channel k).sup; let q := (t.channel k).sup
        q.lockout = p.lockout ∧ (t.channel k).feeder.inh = true ∧
        q.low = .clear ∧ q.high = .clear ∧ q.feederFault = .clear ∧ q.stale = .clear ∧
        ((s.channel k).state = .locked → (t.channel k).state = .locked ∧
          (q.highHigh = .active ↔ p.highHigh = .active) ∧ (q.runOn = .active ↔ p.runOn = .active)) ∧
        ((s.channel k).state ≠ .locked → (t.channel k).state ≠ .locked ∧
          q.highHigh = .clear ∧ q.runOn = .clear)

/-- RESTART sets the flag and queues the awaited ANSWER (R143); the restart begins within the event in which that
ANSWER leaves the transmit queue while the flag is set: sent, dropped at its third collision, dropped as it is
queued, emptied by a conflict frame (R64, R132, R143, R159). A restart that the event brings begins at its end
(the model's choice, assumption 3). -/
def Obligations.ARestartAwaitsItsAnswer : Prop :=
  (∀ (s : State) (im : Image) (src dst tag : Byte), s.service = some im →
    src.toNat ≠ im.station.number → (dst.toNat = im.station.number ∨ dst = 255) →
    s.stn.transmits = true → s.link.listens = true →
    exec (.restart src dst tag) s = .next ({ s.heard with
      restartPending := true
      link := s.heard.link.enqueue
        ⟨.answer ⟨src, tag, 13, .accepted, 255, .plain⟩, true, 0, false⟩ } : State).settleRestart) ∧
  (∀ (s : State) (im : Image) (src dst tag : Byte), s.service = some im →
    src.toNat ≠ im.station.number → (dst.toNat = im.station.number ∨ dst = 255) →
    (s.stn = .join ∨ s.stn = .run) → s.link.listens = true → 8 ≤ s.link.queue.length →
    (∀ e ∈ s.link.queue, e.body.priority = 6 → e.inAttempt = true) →
    ∃ t : State, exec (.restart src dst tag) s = .next t ∧ t.stn = .load ∧ t.restartPending = false) ∧
  (∀ (s : State) (im : Image) (overflow : Bool) (wire : List Byte), s.service = some im →
    s.restartPending = true → s.link.tx = .entry overflow wire →
    (∃ e ∈ s.link.queue, e.inAttempt = true ∧ e.awaited = true) →
    (∃ t : State, exec .frameCompleted s = .next t ∧ t.stn = .load ∧ t.restartPending = false) ∧
    ((∃ e ∈ s.link.queue, e.inAttempt = true ∧ 2 ≤ e.collisions) →
      ∃ t : State, exec .frameCollided s = .next t ∧ t.stn = .load ∧ t.restartPending = false)) ∧
  (∀ (s : State) (im : Image), s.service = some im → s.restartPending = true → s.stn.transmits = true →
    s.link.listens = true → (∃ e ∈ s.link.queue, e.awaited = true ∧ e.body.priority = 4) →
    ∃ t : State, exec .conflictFrame s = .next t ∧ t.stn = .load ∧ t.restartPending = false)

/-! ### Flow and the selector (Chapters 1 and 2) -/

/-- FLOW_PULSE counts one pulse and restarts the idle timer (R3). The flag it clears, and the flag that
IDLE_TIMER_EXPIRY sets (R8), move the configured channels between STANDBY and DOSING and no other; a channel
that leaves DOSING loses M′, Gch, FEED LIMIT and its credit (R30, R95), and all else of a channel stays: conditions,
timers, interval figures, the stroke list and the miss count. No frame is queued. After a pulse that has restarted the
idle timer its expiry does not happen (R9); that the command changes nothing in every state whose idle timer does
not stand at 0 ms, one stopped or still running among them, is the model's choice (assumptions 10 and 11). -/
def Obligations.PulsesAndTheIdleFlag : Prop :=
  (∀ (s : State) (im : Image), s.service = some im → s.flow.idle = false →
    exec .flowPulse s = .next { s with
      flow :=
        { s.flow with
          pulseCount := min 65535 (s.flow.pulseCount + 1)
          idleTimer := some (im.station.idleTime * 1000) } }) ∧
  (∀ (s : State) (im : Image), s.service = some im → s.flow.idle = true → s.StatesDerived →
    ∃ t : State, exec .flowPulse s = .next t ∧
      t = { s with flow := t.flow, channels := t.channels, faultOut := t.faultOut } ∧
      t.flow =
        { s.flow with
          pulseCount := min 65535 (s.flow.pulseCount + 1)
          idleTimer := some (im.station.idleTime * 1000)
          idle := false } ∧
      ∀ k, let c := s.channel k
        t.channel k =
          if (im.channel k).kind = .none then c
          else { c with
            state := if c.state = .standby then .dosing else c.state
            feeder := { c.feeder with inh := decide (c.state = .locked) } }) ∧
  (∀ (s : State) (im : Image), s.service = some im → s.flow.idleTimer = some 0 → s.StatesDerived →
    ∃ t : State, exec .idleTimerExpiry s = .next t ∧
      t = { s with flow := t.flow, channels := t.channels, faultOut := t.faultOut } ∧
      t.flow = { s.flow with idleTimer := none, idle := true } ∧
      ∀ k, let c := s.channel k
        t.channel k =
          if (im.channel k).kind = .none then c
          else if c.state = .dosing then { c with
            state := .standby
            dose := { c.dose with mCap := 0, gch := 0, feedLimit := false }
            feeder := { c.feeder with ac := 0, inh := false } }
          else { c with feeder := { c.feeder with inh := decide (c.state = .locked) } }) ∧
  (∀ s : State, s.flow.idleTimer ≠ some 0 → exec .idleTimerExpiry s = .next s)

/-- FLOW_SAMPLE (R4, R5, R6, R12): the count is taken, its litres enter V uncapped and the ring capped, Q is the
mean of the ring, and the rise of V is added to the interval volume of every configured channel. -/
def Obligations.AFlowSampleMovesVAndQ : Prop :=
  ∀ (s : State) (im : Image), s.service = some im → s.flow.sampleTimer = some 0 →
    ∃ t : State, exec .flowSample s = .next t ∧ t = { s with flow := t.flow, channels := t.channels } ∧
      let litres := s.flow.pulseCount * im.station.litresPerPulse
      let r := t.flow.ring
      t.flow = { s.flow with
        pulseCount := 0, ring := r, wpos := t.flow.wpos, q := t.flow.q, v := t.flow.v,
        sampleTimer := some 1000 } ∧
      r.get s.flow.wpos = min litres 40000 ∧ (∀ i, i ≠ s.flow.wpos → r.get i = s.flow.ring.get i) ∧
      t.flow.wpos.val = (s.flow.wpos.val + 1) % 4 ∧
      t.flow.q = (r.get 0 + r.get 1 + r.get 2 + r.get 3) / 4 ∧
      t.flow.v = min (2 ^ 48 - 1) (s.flow.v + litres) ∧
      ∀ k, t.channel k =
        if (im.channel k).kind = .none then s.channel k
        else { s.channel k with
          iv :=
            { (s.channel k).iv with
              volume := min (2 ^ 32 - 1) ((s.channel k).iv.volume + (t.flow.v - s.flow.v)) } }

/-- Q, V and the ring change at flow samples and at the resets alone (R1, R5, R6). -/
def Obligations.OnlySamplesMoveTheWater : Prop :=
  ∀ (s t : State) (c : Instr), c ≠ .flowSample → exec c s = .next t →
    (t.flow.q = s.flow.q ∧ t.flow.v = s.flow.v ∧ t.flow.ring = s.flow.ring) ∨
    (t.stn = .load ∧ t.flow.q = 0 ∧ t.flow.v = 0 ∧ t.flow.ring = ⟨0, 0, 0, 0⟩)

/-- LINE_CHANGE (R16): in service the lines' index, PSEL0 plus twice PSEL1 plus four times PSEL2, starts or
restarts a settling, or abandons it when it is the selector index; in LOAD and HALTED only the levels
change. -/
def Obligations.ALineChangeSettlesOrNot : Prop :=
  ∀ (s : State) (p0 p1 p2 : Bool) (i : Fin 8), s.psel ≠ (p0, p1, p2) →
    i.val = (if p0 then 1 else 0) + (if p1 then 2 else 0) + (if p2 then 4 else 0) →
    (∀ im, s.service = some im →
      (i ≠ s.selector.index → exec (.lineChange p0 p1 p2) s = .next { s with
        psel := (p0, p1, p2)
        selector := ⟨s.selector.index, some i, some (im.station.settleTime * 1000)⟩ }) ∧
      (i = s.selector.index → exec (.lineChange p0 p1 p2) s = .next { s with
        psel := (p0, p1, p2), selector := ⟨s.selector.index, none, none⟩ })) ∧
    (s.service = none → exec (.lineChange p0 p1 p2) s = .next { s with psel := (p0, p1, p2) })

/-- SETTLE_TIMER_EXPIRY (R17, R20): the candidate becomes the selector index; a configured channel without a
profile override adopts it, losing its target override and, on a chlorine channel, taking the E0 of the new
profile; a channel with an override keeps its profile, its target override and its Eest. Deff, M, M′, Gch,
the queues and the pending slot are kept. After a line change that has restarted or stopped the settle timer its
expiry does not happen (R18); that the command changes nothing in every state whose settle timer does not stand at
0 ms is the model's choice (assumptions 10 and 11). -/
def Obligations.ASettledIndexIsAdopted : Prop :=
  (∀ (s : State) (im : Image) (i : Fin 8), s.service = some im →
    s.selector.candidate = some i → s.selector.timer = some 0 →
    ∃ t : State, exec .settleTimerExpiry s = .next t ∧
      t = { s with selector := ⟨i, none, none⟩, channels := t.channels } ∧
      ∀ k, let d := (s.channel k).dose; let cc := im.channel k
        (cc.kind = .none → t.channel k = s.channel k) ∧
        (∀ o, d.profileOverride = some o → d.activeIndex = o → t.channel k = s.channel k) ∧
        (cc.kind ≠ .none → d.profileOverride = none → d.activeIndex = i → t.channel k = s.channel k) ∧
        (cc.kind ≠ .none → d.profileOverride = none → d.activeIndex ≠ i →
          t.channel k = { s.channel k with
            dose :=
              { d with
                activeIndex := i
                targetOverride := none
                eest := if cc.kind = .chlorine then (cc.profiles.get i).e0 else d.eest } })) ∧
  (∀ s : State, s.selector.timer ≠ some 0 → exec .settleTimerExpiry s = .next s)

/-! ### The dose update (Chapters 2, 3, 5 and 6) -/

/-- DOSE_UPDATE on a coagulant channel, the dose (R24, R25, R26, R28, R44): every entry due at or below V is
released, Tdp takes the last of them, Deff follows Tdp above the knee within Cw, and M follows Q. -/
def Obligations.ACoagulantDoseFollowsTheWater : Prop :=
  ∀ (s : State) (im : Image) (k : Fin 4), s.service = some im → (im.channel k).kind = .coagulant →
    (s.channel k).dose.timer = some 0 →
    ∃ t : State, exec (.doseUpdate k) s = .next t ∧
      let c := (s.channel k).dose
      let d := (t.channel k).dose
      let p := (im.channel k).profiles.get c.activeIndex
      d = { c with
        pipeline := d.pipeline, tdp := d.tdp, deff := d.deff, m := d.m, mCap := d.mCap, gch := d.gch,
        feedLimit := d.feedLimit, timer := some 1000 } ∧
      d.pipeline = c.pipeline.dropWhile (fun e => decide (e.due ≤ s.flow.v)) ∧
      d.tdp = (match (c.pipeline.takeWhile fun e => decide (e.due ≤ s.flow.v)).getLast? with
        | some e => some e.turbidity
        | none => c.tdp) ∧
      d.deff = min (c.targetOverride.getD p.b + (d.tdp.getD p.k - p.k) * p.s / 10) c.cw ∧
      d.m = s.flow.q * d.deff / 100

/-- DOSE_UPDATE on a chlorine channel, the dose and the history (R25, R27, R28, R48, R49, R50): Eest is limited
to Cw for good, Deff is Rt′ + Eest within Cw; the history is pruned to the entry that covers V − lag, and
with Q above 0 the delivered dose is appended, passed over, put in place of the newest, or merged. -/
def Obligations.AChlorineDoseFollowsTheEstimate : Prop :=
  ∀ (s : State) (im : Image) (k : Fin 4), s.service = some im → (im.channel k).kind = .chlorine →
    (s.channel k).dose.timer = some 0 →
    ∃ t : State, exec (.doseUpdate k) s = .next t ∧
      let c := (s.channel k).dose
      let d := (t.channel k).dose
      let cc := im.channel k
      let v := s.flow.v
      let dd := d.gch * 100 / s.flow.q
      d = { c with
        eest := min c.eest c.cw, history := d.history, deff := d.deff, m := d.m, mCap := d.mCap,
        gch := d.gch, feedLimit := d.feedLimit, timer := some 1000 } ∧
      d.deff = min (c.targetOverride.getD (cc.profiles.get c.activeIndex).rt + min c.eest c.cw) c.cw ∧
      d.m = s.flow.q * d.deff / 100 ∧
      ∃ gone h, c.history = gone ++ h ∧ (c.history ≠ [] → h ≠ []) ∧
        (∀ a b rest, h = a :: b :: rest → ¬ (cc.volume ≤ v ∧ b.mark ≤ v - cc.volume)) ∧
        (gone ≠ [] → ∃ a rest, h = a :: rest ∧ cc.volume ≤ v ∧ a.mark ≤ v - cc.volume) ∧
        (s.flow.q = 0 → d.history = h) ∧
        (0 < s.flow.q → h = [] → d.history = [⟨v, dd, false⟩]) ∧
        (0 < s.flow.q → ∀ older newest, h = older ++ [newest] →
          let apart := dd + cc.historyStep ≤ newest.dose ∨ newest.dose + cc.historyStep ≤ dd
          (¬ apart → d.history = h) ∧
          (apart → v = newest.mark → d.history = older ++ [{ newest with dose := dd }]) ∧
          (apart → v ≠ newest.mark → h.length < 8 → d.history = h ++ [⟨v, dd, false⟩]) ∧
          (apart → v ≠ newest.mark → 8 ≤ h.length →
            d.history = older ++ [{ newest with dose := dd, merged := true }]))

/-- DOSE_UPDATE, the demand and the grant (R29, R76, R77, R78, R79, R85, R88): M′ within Mmax in DOSING and 0
elsewhere, FEED LIMIT, the station demand with the fresh M′, the station grant by the reserve rule or the
water-fill, Gch as the channel's share, the grant record. Nothing else changes but the channel itself. The
effective capacity is the least among the occupied slots of the group, else its fallback (R72); the peers that
take part are the entries of the peer table with a demand above 0 on the group (R80). -/
def Obligations.ADoseUpdateAsksForAGrant : Prop :=
  ∀ (s : State) (im : Image) (k : Fin 4), s.service = some im → (im.channel k).kind ≠ .none →
    (s.channel k).dose.timer = some 0 →
    ∃ t : State, exec (.doseUpdate k) s = .next t ∧
      t = { s with channels := t.channels, share := t.share } ∧
      (∀ j, j ≠ k → t.channel j = s.channel j) ∧
      let cc := im.channel k
      let d := (t.channel k).dose
      let r := t.share.get cc.group
      (∀ g, g ≠ cc.group → t.share.get g = s.share.get g) ∧
      (t.channel k).state = (s.channel k).state ∧ (t.channel k).sup = (s.channel k).sup ∧
      d.mCap = (if (s.channel k).state = .dosing then min d.m (cc.strokeMass * 1000 / cc.tmin) else 0) ∧
      (d.feedLimit = true ↔ (s.channel k).state = .dosing ∧ cc.strokeMass * 1000 / cc.tmin < d.m) ∧
      r.dOwn = ((im.onGroup cc.group).map fun j => (t.channel j).dose.mCap).sum ∧
      (s.stn ≠ .run →
        r.gStation = min r.dOwn (s.capacityOf im cc.group * im.station.reserveShare / 1000)) ∧
      (s.stn = .run →
        r.gStation = waterFill (s.capacityOf im cc.group)
          ⟨im.station.number, im.station.weight, r.dOwn⟩ (s.peer.participants cc.group)) ∧
      d.gch = (if r.dOwn ≤ r.gStation then d.mCap else r.gStation * d.mCap / r.dOwn) ∧
      ∀ g, s.capacityOf im g = (match (s.peer.capacity.get g).slot0, (s.peer.capacity.get g).slot1 with
          | none, none => (im.groups.get g).fallback
          | some x, none => x.capacity
          | none, some y => y.capacity
          | some x, some y => min x.capacity y.capacity) ∧
        ∀ p, p ∈ s.peer.participants g ↔ ∃ e ∈ s.peer.table, 0 < e.demand.get g ∧
          p = ⟨e.number, e.weight, e.demand.get g⟩

/-- DOSE_UPDATE, credit, stroke and interval figures (R31, R94, R96, R146): the grant of one second enters the
credit up to 4 × m_s and the excess is counted as dropped; the issue test gives at most one stroke. -/
def Obligations.ADoseUpdateFillsTheCredit : Prop :=
  ∀ (s : State) (im : Image) (k : Fin 4), s.service = some im → (im.channel k).kind ≠ .none →
    (s.channel k).dose.timer = some 0 →
    ∃ t : State, exec (.doseUpdate k) s = .next t ∧
      let cc := im.channel k
      let c := s.channel k
      let d := (t.channel k).dose
      let sum := c.feeder.ac + d.gch
      let credit := min (4 * cc.strokeMass) sum
      let passes := c.state = .dosing ∧ cc.strokeMass ≤ credit ∧ c.feeder.timer = none ∧
        c.feeder.strokes.length < 8
      (passes → (t.channel k).feeder =
        { c.feeder with
          ac := credit - cc.strokeMass
          timer := some cc.tmin
          strokes := c.feeder.strokes ++ [⟨.pending, cc.confirmWindow⟩]
          stk := c.feeder.stk + 1 } ∧
        (t.channel k).iv.issued = min 65535 (c.iv.issued + 1)) ∧
      (¬ passes → (t.channel k).feeder = { c.feeder with ac := credit } ∧
        (t.channel k).iv.issued = c.iv.issued) ∧
      (t.channel k).iv =
        { c.iv with
          granted := min (2 ^ 48 - 1) (c.iv.granted + d.gch)
          mSum := min (2 ^ 48 - 1) (c.iv.mSum + d.mCap)
          gSum := min (2 ^ 48 - 1) (c.iv.gSum + d.gch)
          shortfall := min (2 ^ 32 - 1) (c.iv.shortfall + (d.m - d.gch))
          creditDropped := min (2 ^ 32 - 1) (c.iv.creditDropped + (sum - 4 * cc.strokeMass))
          feedLimitSeen := c.iv.feedLimitSeen || d.feedLimit
          issued := (t.channel k).iv.issued }

/-! ### Apportioning (Chapter 5) -/

/-- The water-fill (R80, R81, R83, R84): a station that asks nothing gets nothing; within the capacity each gets
its demand; otherwise the station gets its grant of the division. The division walks the participants in order:
each whose demand is at most its fair share of what the ones before it have left, by weight, gets its demand; the
first whose demand exceeds it, and every one after it, gets its fair share of what is left there. The grants sum to
at most the capacity, and no participant gets more than its demand, nor less than its demand or its part by weight
of the whole capacity, whichever is smaller. -/
def Obligations.TheWaterFillIsFair : Prop :=
  (∀ (capacity : Nat) (own : Participant) (peers : List Participant),
    (own.demand = 0 → waterFill capacity own peers = 0) ∧
    (totalDemand (own :: peers) ≤ capacity → waterFill capacity own peers = own.demand) ∧
    (own.demand ≠ 0 → capacity < totalDemand (own :: peers) →
      ((own :: peers).map Participant.number).Nodup →
      (own.number, waterFill capacity own peers) ∈ fill capacity (own :: peers))) ∧
  (∀ (capacity : Nat) (ps : List Participant), (∀ p ∈ ps, 1 ≤ p.weight) →
    (let weights := (ps.map Participant.weight).sum
    let left := fun served : List Participant => capacity - (served.map Participant.demand).sum
    let fair := fun (served : List Participant) (p : Participant) =>
      left served * p.weight / (weights - (served.map Participant.weight).sum)
    ∃ satisfied rest, orderParticipants ps = satisfied ++ rest ∧
      fill capacity ps = satisfied.map (fun p => (p.number, p.demand)) ++
        rest.map (fun p => (p.number, fair satisfied p)) ∧
      (∀ pre p post, satisfied = pre ++ p :: post → p.demand ≤ fair pre p) ∧
      (∀ p post, rest = p :: post → fair satisfied p < p.demand) ∧
      (satisfied.map Participant.demand).sum ≤ capacity ∧
      (capacity < (ps.map Participant.demand).sum → rest ≠ [])) ∧
    ((fill capacity ps).map Prod.snd).sum ≤ capacity ∧
    (fill capacity ps).map Prod.fst = (orderParticipants ps).map Participant.number ∧
    ∀ p ∈ ps, ∃ grant, (p.number, grant) ∈ fill capacity ps ∧ grant ≤ p.demand ∧
      min p.demand (capacity * p.weight / totalWeight ps) ≤ grant)

/-- The shares into which one grant computation divides the station grant sum to at most the effective capacity,
and outside RUN to at most the reserve; they sum to at most the station grant, each within its M′ when the
grant covers the station demand and within its part of the grant otherwise; the grant itself is at most the
capacity under the water-fill and at most the reserve under the reserve rule (R86). -/
def Obligations.SharesStayWithinTheCapacity : Prop :=
  ∀ (s : State) (im : Image) (g : Fin 4), s.service = some im → im.valid = true →
    let capacity := s.capacityOf im g
    let reserve := capacity * im.station.reserveShare / 1000
    let grant := s.stationGrant im g
    let demand := s.stationDemand im g
    let share := fun k => split grant demand (s.channel k).dose.mCap
    let shares := ((im.onGroup g).map share).sum
    shares ≤ capacity ∧ (s.stn = .join ∨ s.stn = .isolated ∨ s.stn = .silent → shares ≤ reserve) ∧
      shares ≤ grant ∧
      (∀ k ∈ im.onGroup g, (demand ≤ grant → share k ≤ (s.channel k).dose.mCap) ∧
        (grant < demand → share k * demand ≤ grant * (s.channel k).dose.mCap)) ∧
      ((im.onGroup g).map fun k => (s.channel k).dose.mCap).sum = demand ∧
      (s.stn = .run → grant ≤ capacity) ∧ (s.stn ≠ .run → grant ≤ reserve)

/-- The order of the participants (R82): by demand per unit of weight, compared by cross products, then by
station number; the same for every station that holds the same demands and weights. -/
def Obligations.TheOrderIsTheSameEverywhere : Prop :=
  ∀ ps qs : List Participant, (∀ p ∈ ps, 1 ≤ p.weight) → (ps.map Participant.number).Nodup →
    (orderParticipants ps).Perm ps ∧
    (orderParticipants ps).Pairwise (fun a b =>
      a.demand * b.weight < b.demand * a.weight ∨
        (a.demand * b.weight = b.demand * a.weight ∧ a.number < b.number)) ∧
    (ps.Perm qs → orderParticipants ps = orderParticipants qs)

/-! ### The feeder (Chapter 6) -/

/-- STROKE_INTERVAL_EXPIRY (R96, R97): the timer stops and the issue test is made; when it passes a stroke is
issued, otherwise nothing else changes. -/
def Obligations.TheStrokeTimerIssuesOrStops : Prop :=
  ∀ (s : State) (im : Image) (k : Fin 4), s.service = some im → (im.channel k).kind ≠ .none →
    (s.channel k).feeder.timer = some 0 →
    let cc := im.channel k
    let c := s.channel k
    let passes := c.state = .dosing ∧ cc.strokeMass ≤ c.feeder.ac ∧ c.feeder.strokes.length < 8
    (passes → exec (.strokeIntervalExpiry k) s = .next (s.setChannel k { c with
      feeder :=
        { c.feeder with
          ac := c.feeder.ac - cc.strokeMass
          timer := some cc.tmin
          strokes := c.feeder.strokes ++ [⟨.pending, cc.confirmWindow⟩]
          stk := c.feeder.stk + 1 }
      iv := { c.iv with issued := min 65535 (c.iv.issued + 1) } })) ∧
    (¬ passes → exec (.strokeIntervalExpiry k) s =
      .next (s.setChannel k { c with feeder := { c.feeder with timer := none } }))

/-- CONFIRM matches the oldest outstanding stroke (R100): in time when it is PENDING, late when it is MISSED. -/
def Obligations.AConfirmMatchesTheOldestStroke : Prop :=
  ∀ (s : State) (im : Image) (k : Fin 4) (n : Nat) (rest : List Stroke), s.service = some im →
    (im.channel k).kind ≠ .none →
    let c := s.channel k
    (c.feeder.strokes = ⟨.pending, n⟩ :: rest → exec (.confirm k) s = .next (s.setChannel k { c with
      feeder := { c.feeder with strokes := rest, misses := 0 }
      iv :=
        { c.iv with
          confirmed := min 65535 (c.iv.confirmed + 1)
          confirmedMass := min (2 ^ 32 - 1) (c.iv.confirmedMass + (im.channel k).strokeMass) } })) ∧
    (c.feeder.strokes = ⟨.missed, n⟩ :: rest → exec (.confirm k) s = .next (s.setChannel k { c with
      feeder := { c.feeder with strokes := rest }
      iv := { c.iv with late := min 65535 (c.iv.late + 1) } }))

/-- CONFIRM on an empty list is unexpected, a run-on event (R100, R117): the quiet timer restarts; the first one
starts an ALERT, the second, or the first with a run-on time of 0 s, locks the channel with its lockout record,
its inhibit and an ALARM, and marks the interval as having had a condition ACTIVE (R146); on an ACTIVE RUN-ON no
condition changes. The other five conditions stay, and the dose and the credit stay unless the channel leaves
DOSING (R106, R112, R122, R123, R129). A restart that the event brings begins at its end (the model's choice,
assumption 3). -/
def Obligations.AnUnexpectedConfirmIsRunOn : Prop :=
  ∀ (s : State) (im : Image) (k : Fin 4), s.service = some im → (im.channel k).kind ≠ .none →
    s.StatesDerived → (s.channel k).feeder.strokes = [] →
    ∃ t : State, exec (.confirm k) s = .next t.settleRestart ∧ s.EventOn t k ∧
      let cc := im.channel k
      let c := s.channel k
      let d := t.channel k
      let quiet : Timer := some ((if cc.runOnTime = 0 then 1 else cc.runOnTime) * 1000)
      d.iv = { c.iv with
        unexpected := min 65535 (c.iv.unexpected + 1)
        condActive := if c.sup.runOn = .alert ∨ (c.sup.runOn = .clear ∧ cc.runOnTime = 0) then true
          else c.iv.condActive } ∧
      (c.sup.runOn = .clear → 0 < cc.runOnTime →
        d.sup = { c.sup with
          quietTimer := quiet, runOn := .alert, runOnTimer := some (cc.runOnTime * 1000) } ∧
        d.state = c.state ∧ d.dose = c.dose ∧
        d.feeder = { c.feeder with inh := d.feeder.inh } ∧ s.NothingQueued t) ∧
      (c.sup.runOn = .active →
        d.sup = { c.sup with quietTimer := quiet } ∧ d.state = .locked ∧ d.dose = c.dose ∧
        d.feeder = { c.feeder with inh := true } ∧ s.NothingQueued t) ∧
      (c.sup.runOn = .alert ∨ (c.sup.runOn = .clear ∧ cc.runOnTime = 0) →
        d.sup = { c.sup with
          quietTimer := quiet
          runOn := .active
          runOnTimer := if c.sup.runOn = .alert then none else c.sup.runOnTimer
          lockout := if c.state = .locked
            then c.sup.lockout.map fun r => { r with additionalRunOn := true }
            else some (c.recordOf cc s.flow.v .runOn) } ∧
        d.state = .locked ∧
        d.dose = (if c.state = .dosing then { c.dose with mCap := 0, gch := 0, feedLimit := false }
          else c.dose) ∧
        d.feeder = { c.feeder with
          ac := if c.state = .dosing then 0 else c.feeder.ac, inh := true } ∧
        s.Queued t (d.alarmOf k .runOnEvent c.state))

/-- DEADLINE_EXPIRY turns the first PENDING entry MISSED and counts the miss (R101); the miss that brings the count
to the limit makes FEEDER FAULT ACTIVE and no other condition (R119), which takes the channel to FAULTED unless it
is LOCKED, marks the interval (R146) and queues an ALARM (R129); the dose and the credit stay unless the channel
leaves DOSING (R30, R95), and its lists and overrides stay even then. GRACE_DEADLINE_EXPIRY removes the MISSED front
entry (R102). A restart that the event brings begins at its end (the model's choice, assumption 3). -/
def Obligations.DeadlinesCountAndRemove : Prop :=
  (∀ (s : State) (im : Image) (k : Fin 4) (missed rest : List Stroke), s.service = some im →
    (im.channel k).kind ≠ .none →
    (s.channel k).feeder.strokes = missed ++ ⟨.pending, 0⟩ :: rest → (∀ e ∈ missed, e.state = .missed) →
    let cc := im.channel k
    let c := s.channel k
    let count := min 255 (c.feeder.misses + 1)
    let c' : Channel :=
      { c with
        feeder :=
          { c.feeder with
            strokes := missed ++ ⟨.missed, cc.confirmWindow⟩ :: rest, misses := count }
        iv := { c.iv with missed := min 65535 (c.iv.missed + 1) } }
    (count ≠ cc.missLimit → exec (.deadlineExpiry k) s = .next (s.setChannel k c')) ∧
    (count = cc.missLimit → s.StatesDerived →
      ∃ t : State, exec (.deadlineExpiry k) s = .next t.settleRestart ∧ s.EventOn t k ∧
        let d := t.channel k
        d.sup = { c.sup with feederFault := .active } ∧
        d.state = (if c.state = .locked then .locked else .faulted) ∧
        d.dose = (if c.state = .dosing then { c.dose with mCap := 0, gch := 0, feedLimit := false }
          else c.dose) ∧
        d.feeder = { c'.feeder with
          ac := if c.state = .dosing then 0 else c.feeder.ac, inh := decide (c.state = .locked) } ∧
        d.iv = { c'.iv with
          condActive := if c.sup.feederFault = .active then c.iv.condActive else true } ∧
        (c.sup.feederFault = .active → s.NothingQueued t) ∧
        (c.sup.feederFault ≠ .active → s.Queued t (d.alarmOf k .feederFaultEvent c.state)))) ∧
  (∀ (s : State) (im : Image) (k : Fin 4) (rest : List Stroke), s.service = some im →
    (im.channel k).kind ≠ .none → (s.channel k).feeder.strokes = ⟨.missed, 0⟩ :: rest →
    exec (.graceDeadlineExpiry k) s = .next (s.setChannel k { s.channel k with
      feeder := { (s.channel k).feeder with strokes := rest } }))

/-! ### Protection (Chapter 7) -/

/-- ALERT_TIMER_EXPIRY (R115, R122, R123, R129, R146): the condition in ALERT becomes ACTIVE and its timer stops, and
no other condition or timer changes; LOW RESIDUAL changes no state, HIGH RESIDUAL holds the channel unless it is
LOCKED or FAULTED, HIGH-HIGH RESIDUAL locks it with its record and its inhibit; each marks the interval and queues an
ALARM. The dose and the credit stay unless the channel leaves DOSING (R30, R95), and its queues and overrides stay
even then. A restart that the event brings begins at its end (the model's choice, assumption 3). -/
def Obligations.AnAlertExpiryRaisesItsCondition : Prop :=
  ∀ (s : State) (im : Image) (k : Fin 4) (w : ResidualCondition), s.service = some im →
    (im.channel k).kind ≠ .none → s.StatesDerived → (s.channel k).sup.condition w = .alert →
    (s.channel k).sup.alertTimer w = some 0 →
    ∃ t : State, exec (.alertTimerExpiry k w) s = .next t.settleRestart ∧ s.EventOn t k ∧
      let c := s.channel k
      let d := t.channel k
      let leaves := c.state = .dosing ∧ w ≠ .low
      d.dose = (if leaves then { c.dose with mCap := 0, gch := 0, feedLimit := false } else c.dose) ∧
      d.feeder = { c.feeder with
        ac := if leaves then 0 else c.feeder.ac, inh := decide (d.state = .locked) } ∧
      d.iv = { c.iv with condActive := true } ∧
      (w = .low → d.sup = { c.sup with low := .active, tL := none } ∧ d.state = c.state ∧
        s.Queued t (d.alarmOf k .tLExpiry c.state)) ∧
      (w = .high → d.sup = { c.sup with high := .active, tH := none } ∧
        d.state = (if c.state = .locked ∨ c.state = .faulted then c.state else .held) ∧
        s.Queued t (d.alarmOf k .tHExpiry c.state)) ∧
      (w = .highHigh →
        d.sup = { c.sup with
          highHigh := .active
          tHH := none
          lockout := if c.state = .locked
            then c.sup.lockout.map fun r => { r with additionalHighHigh := true }
            else some (c.recordOf (im.channel k) s.flow.v .highHigh) } ∧
        d.state = .locked ∧ s.Queued t (d.alarmOf k .tHHExpiry c.state))

/-- RUN_ON_TIMER_EXPIRY returns RUN-ON from ALERT to CLEAR without an ALARM, and the dose, the feeder and the interval's
figures stay (R118); QUIET_TIMER_EXPIRY only stops the quiet timer (R117). -/
def Obligations.RunOnAndQuietTimersRunOut : Prop :=
  ∀ (s : State) (im : Image) (k : Fin 4), s.service = some im → (im.channel k).kind ≠ .none →
    let c := s.channel k
    (s.StatesDerived → c.sup.runOn = .alert → c.sup.runOnTimer = some 0 →
      ∃ t : State, exec (.runOnTimerExpiry k) s = .next t ∧ s.EventOn t k ∧ s.NothingQueued t ∧
        (t.channel k).sup = { c.sup with runOn := .clear, runOnTimer := none } ∧
        (t.channel k).state = c.state ∧ (t.channel k).dose = c.dose ∧ (t.channel k).iv = c.iv ∧
        (t.channel k).feeder = { c.feeder with inh := decide (c.state = .locked) }) ∧
    (c.sup.quietTimer = some 0 → exec (.quietTimerExpiry k) s =
      .next (s.setChannel k { c with sup := { c.sup with quietTimer := none } }))

/-! ### The analyzer line (Chapters 3 and 7) -/

/-- ANALYZER_MESSAGE with a GOOD turbidity in range (R36, R37, R38, R42, R43, R55): the record takes it and is
FRESH; each coagulant channel mapped to the analyzer counts it good and appends it at V plus the lead volume, a
full pipeline giving its front to Tdp first; each chlorine one counts it received. Where the states are derived,
all else of the dose and of the feeder stays, its inhibit asserted when LOCKED, and no other interval figure
changes. A channel that is not mapped stays as it is. That no message is open after
the command, whatever was open before, is the model's reading (assumption 20). A restart that the event brings
begins at its end (the model's choice, assumption 3). -/
def Obligations.AGoodTurbidityEntersThePipeline : Prop :=
  ∀ (s : State) (im : Image) (m : SampleMessage) (a : Fin 8), s.service = some im →
    m.start = 0xA5 → m.analyzer.toNat = a.val → m.measurand = 2 → m.quality = 0 → m.value.toNat ≤ 10000 →
    ((messageBytes m).map BitVec.toNat).sum % 256 = 0 →
    ∃ t : State, exec (.analyzerMessage m) s = .next t.settleRestart ∧
      t = { s with
        intake := t.intake, channels := t.channels, faultOut := t.faultOut, link := t.link
        freeCount := t.freeCount } ∧
      t.intake.buffer = [] ∧ t.intake.gapTimer = none ∧
      t.intake.records.get a =
        ⟨some ⟨m.value.toNat, .turbidity, .good⟩, true, some (im.station.analyzerTimeout * 1000)⟩ ∧
      (∀ b, b ≠ a → t.intake.records.get b = s.intake.records.get b) ∧
      ∀ k, let c := s.channel k; let d := t.channel k; let cc := im.channel k
        (cc.kind = .coagulant → cc.analyzer = some a →
          d.dose.pipeline = (if 16 ≤ c.dose.pipeline.length then c.dose.pipeline.tail
            else c.dose.pipeline) ++ [⟨min (2 ^ 48 - 1) (s.flow.v + cc.volume), m.value.toNat⟩] ∧
          (c.dose.pipeline.length < 16 → d.dose.tdp = c.dose.tdp) ∧
          (∀ e es, c.dose.pipeline = e :: es → 16 ≤ c.dose.pipeline.length →
            d.dose.tdp = some e.turbidity) ∧
          d.dose.deff = c.dose.deff ∧
          d.iv = { c.iv with
            received := min 65535 (c.iv.received + 1), good := min 65535 (c.iv.good + 1) } ∧
          (s.StatesDerived → d.state = c.state ∧
            d.dose = { c.dose with pipeline := d.dose.pipeline, tdp := d.dose.tdp })) ∧
        (cc.kind = .chlorine → cc.analyzer = some a →
          d.iv = { c.iv with received := min 65535 (c.iv.received + 1) } ∧
          (s.StatesDerived → d.state = c.state ∧ d.dose = c.dose)) ∧
        (cc.kind ≠ .none → cc.analyzer = some a → s.StatesDerived →
          d.feeder = { c.feeder with inh := decide (d.state = .locked) }) ∧
        (cc.kind = .none ∨ cc.analyzer ≠ some a → d = c)

/-- A GOOD residual in range on a chlorine channel in DOSING (R50, R51, R52, R53, R55): the history is pruned, the
front entry leaving while the second mark is at or below V less the lag volume, and nothing else of it changes;
without a covering entry at V less the lag volume, or with a merged one, the sample is unusable and Eest stays;
otherwise Eest moves a quarter of the way, truncated toward zero, towards the covering dose less the residual,
within 0 to Cw. Outside DOSING there is no lookup. In either case the residual is the last residual, the interval's
extremes take it (R146), and where the states are derived only the history and Eest of the dose state and the
inhibit of the feeder may change. The sample counts as received; that a
GOOD residual also raises the good count is the model's choice (assumption 25: the opening of R38 counts only a
GOOD turbidity, the text after its table and the table of R55 a GOOD residual too). A restart that the event
brings begins at its end (the model's choice, assumption 3). -/
def Obligations.AGoodResidualCorrectsTheEstimate : Prop :=
  ∀ (s : State) (im : Image) (m : SampleMessage) (a : Fin 8) (k : Fin 4), s.service = some im →
    m.start = 0xA5 → m.analyzer.toNat = a.val → m.measurand = 1 → m.quality = 0 → m.value.toNat ≤ 1000 →
    ((messageBytes m).map BitVec.toNat).sum % 256 = 0 →
    (im.channel k).kind = .chlorine → (im.channel k).analyzer = some a →
    ∃ t : State, exec (.analyzerMessage m) s = .next t.settleRestart ∧
      let c := s.channel k
      let d := t.channel k
      let lag := (im.channel k).volume
      let cover := c.dose.history.filter fun e => decide (e.mark ≤ s.flow.v - lag)
      let usable := lag ≤ s.flow.v ∧ ∃ older e, cover = older ++ [e] ∧ e.merged = false
      d.sup.lastResidual = some m.value.toNat ∧
      d.iv = { c.iv with
        received := min 65535 (c.iv.received + 1), good := min 65535 (c.iv.good + 1)
        unusable := d.iv.unusable, minResidual := d.iv.minResidual, maxResidual := d.iv.maxResidual } ∧
      d.iv.minResidual = some (c.iv.minResidual.elim m.value.toNat fun x => min x m.value.toNat) ∧
      d.iv.maxResidual = some (c.iv.maxResidual.elim m.value.toNat fun x => max x m.value.toNat) ∧
      (s.StatesDerived → d.feeder = { c.feeder with inh := decide (d.state = .locked) }) ∧
      (c.state ≠ .dosing → d.dose = c.dose ∧ d.iv.unusable = c.iv.unusable) ∧
      (c.state = .dosing →
        (s.StatesDerived → d.dose = { c.dose with history := d.dose.history, eest := d.dose.eest }) ∧
        ∃ gone, c.dose.history = gone ++ d.dose.history ∧ (c.dose.history ≠ [] → d.dose.history ≠ []) ∧
          (∀ e ∈ (gone ++ d.dose.history.take 1).tail, lag ≤ s.flow.v ∧ e.mark ≤ s.flow.v - lag) ∧
          ∀ x y rest, d.dose.history = x :: y :: rest → ¬ (lag ≤ s.flow.v ∧ y.mark ≤ s.flow.v - lag)) ∧
      (c.state = .dosing → ¬ usable → d.dose.eest = c.dose.eest ∧
        d.iv.unusable = min 65535 (c.iv.unusable + 1)) ∧
      (c.state = .dosing → lag ≤ s.flow.v → ∀ older e, cover = older ++ [e] → e.merged = false →
        d.iv.unusable = c.iv.unusable ∧
        (d.dose.eest : Int) = max 0 (min (c.dose.cw : Int)
          (c.dose.eest + (((e.dose - m.value.toNat : Nat) : Int) - c.dose.eest).tdiv 4)))

/-- A GOOD or SUSPECT residual on a chlorine channel, the residual conditions (R36, R113, R114, R146): a value above
1,000 is taken as 1,000; one at or beyond the alert level starts an ALERT with its timer, back across it an ALERT
ends, at the recovery level an ACTIVE LOW or HIGH RESIDUAL ends, HIGH-HIGH RESIDUAL does not; an alert time of 0 s
keeps its condition as it is; the interval's extremes take the value, and no other condition, timer or figure
changes but the counts of samples. Where the states are derived the lockout record stays, of the feeder only the
inhibit may change, and of the dose only the history and Eest, which a SUSPECT sample leaves as they are. A restart
that the event brings begins at its end (the model's choice, assumption 3). -/
def Obligations.AResidualJudgesTheConditions : Prop :=
  ∀ (s : State) (im : Image) (m : SampleMessage) (a : Fin 8) (k : Fin 4), s.service = some im →
    m.start = 0xA5 → m.analyzer.toNat = a.val → m.measurand = 1 → (m.quality = 0 ∨ m.quality = 1) →
    ((messageBytes m).map BitVec.toNat).sum % 256 = 0 →
    (im.channel k).kind = .chlorine → (im.channel k).analyzer = some a →
    ∃ t : State, exec (.analyzerMessage m) s = .next t.settleRestart ∧
      let p := (s.channel k).sup
      let q := (t.channel k).sup
      let cc := im.channel k
      let r := min m.value.toNat 1000
      q.lastResidual = some r ∧ (cc.tL = 0 → q.low = p.low ∧ q.tL = p.tL) ∧
      (cc.tH = 0 → q.high = p.high ∧ q.tH = p.tH) ∧ (cc.tHH = 0 → q.highHigh = p.highHigh ∧ q.tHH = p.tHH) ∧
      (0 < cc.tL →
        (p.low = .clear → r ≤ cc.lowLimit → q.low = .alert ∧ q.tL = some (cc.tL * 1000)) ∧
        (p.low = .clear → cc.lowLimit < r → q.low = .clear ∧ q.tL = p.tL) ∧
        (p.low = .alert → r ≤ cc.lowLimit → q.low = .alert ∧ q.tL = p.tL) ∧
        (p.low = .alert → cc.lowLimit < r → q.low = .clear ∧ q.tL = none) ∧
        (p.low = .active → cc.lowRecovery ≤ r → q.low = .clear ∧ q.tL = p.tL) ∧
        (p.low = .active → r < cc.lowRecovery → q.low = .active ∧ q.tL = p.tL)) ∧
      (0 < cc.tH →
        (p.high = .clear → cc.highLimit ≤ r → q.high = .alert ∧ q.tH = some (cc.tH * 1000)) ∧
        (p.high = .clear → r < cc.highLimit → q.high = .clear ∧ q.tH = p.tH) ∧
        (p.high = .alert → cc.highLimit ≤ r → q.high = .alert ∧ q.tH = p.tH) ∧
        (p.high = .alert → r < cc.highLimit → q.high = .clear ∧ q.tH = none) ∧
        (p.high = .active → r ≤ cc.highRecovery → q.high = .clear ∧ q.tH = p.tH) ∧
        (p.high = .active → cc.highRecovery < r → q.high = .active ∧ q.tH = p.tH)) ∧
      (0 < cc.tHH →
        (p.highHigh = .clear → cc.hhLimit ≤ r → q.highHigh = .alert ∧ q.tHH = some (cc.tHH * 1000)) ∧
        (p.highHigh = .clear → r < cc.hhLimit → q.highHigh = .clear ∧ q.tHH = p.tHH) ∧
        (p.highHigh = .alert → cc.hhLimit ≤ r → q.highHigh = .alert ∧ q.tHH = p.tHH) ∧
        (p.highHigh = .alert → r < cc.hhLimit → q.highHigh = .clear ∧ q.tHH = none) ∧
        (p.highHigh = .active → q.highHigh = .active ∧ q.tHH = p.tHH)) ∧
      q.runOn = p.runOn ∧ q.feederFault = p.feederFault ∧ q.stale = (if (s.intake.records.get a).fresh
        then p.stale else .clear) ∧
      (t.channel k).state = q.derive s.flow.idle ∧
      let c := s.channel k
      let d := t.channel k
      d.iv = { c.iv with
        received := min 65535 (c.iv.received + 1), good := d.iv.good, unusable := d.iv.unusable
        minResidual := some (c.iv.minResidual.elim r fun x => min x r)
        maxResidual := some (c.iv.maxResidual.elim r fun x => max x r) } ∧
      (s.StatesDerived →
        q = { p with
          lastResidual := some r, low := q.low, tL := q.tL, high := q.high, tH := q.tH
          highHigh := q.highHigh, tHH := q.tHH, stale := q.stale } ∧
        d.feeder = { c.feeder with inh := decide (d.state = .locked) } ∧
        d.dose = { c.dose with history := d.dose.history, eest := d.dose.eest } ∧
        (m.quality = 1 ∨ 1000 < m.value.toNat →
          d.dose = c.dose ∧ d.iv.good = c.iv.good ∧ d.iv.unusable = c.iv.unusable))

/-- Bytes and rejected messages (R35, R36, R172). A message that is not well formed, or of quality FAULT, counts one
sample not good on the channels of the analyzer number it carries, and changes no record; with a number above 7
it counts nowhere. With no message open 0xA5 opens one and any other byte is discarded; further bytes are taken
by position, and the seventh is the message's arrival; the gap of 10 ms rejects an open message, counted once
byte 1 has been received. That ANALYZER_MESSAGE leaves no message open, whatever was open before, is the model's
reading (assumption 20). A restart that the event brings begins at its end (the model's choice, assumption
3). -/
def Obligations.BytesMakeMessages : Prop :=
  (∀ (s : State) (im : Image) (m : SampleMessage) (a : Fin 8), s.service = some im →
    m.analyzer.toNat = a.val →
    (m.start ≠ 0xA5 ∨ (m.measurand ≠ 1 ∧ m.measurand ≠ 2) ∨
      (m.quality ≠ 0 ∧ m.quality ≠ 1) ∨ ((messageBytes m).map BitVec.toNat).sum % 256 ≠ 0) →
    ∃ t : State, exec (.analyzerMessage m) s = .next t.settleRestart ∧
      t = { s with intake := { s.intake with buffer := [], gapTimer := none }, channels := t.channels } ∧
      ∀ k, t.channel k =
        if (im.channel k).kind ≠ .none ∧ (im.channel k).analyzer = some a then
          { s.channel k with
            iv := { (s.channel k).iv with received := min 65535 ((s.channel k).iv.received + 1) } }
        else s.channel k) ∧
  (∀ (s : State) (im : Image) (m : SampleMessage), s.service = some im → 7 < m.analyzer.toNat →
    exec (.analyzerMessage m) s =
      .next ({ s with intake := { s.intake with buffer := [], gapTimer := none } } : State).settleRestart) ∧
  (∀ (s : State) (im : Image) (b : Byte), s.service = some im → s.intake.buffer = [] →
    exec (.receivedByteOnAnz b) s = .next (if b = 0xA5 then
      { s with intake := { s.intake with buffer := [b], gapTimer := some 10 } } else s)) ∧
  (∀ (s : State) (im : Image) (b : Byte), s.service = some im → s.intake.buffer ≠ [] →
    s.intake.buffer.length < 6 → exec (.receivedByteOnAnz b) s =
      .next { s with
        intake := { s.intake with buffer := s.intake.buffer ++ [b], gapTimer := some 10 } }) ∧
  (∀ (s : State) (im : Image) (b : Byte) (m : SampleMessage), s.service = some im →
    s.intake.buffer ++ [b] = messageBytes m →
    exec (.receivedByteOnAnz b) s = exec (.analyzerMessage m) s) ∧
  (∀ (s : State) (im : Image), s.service = some im → s.intake.buffer ≠ [] → s.intake.gapTimer = some 0 →
    ∃ t : State, exec .messageGap s = .next t ∧
      t = { s with intake := { s.intake with buffer := [], gapTimer := none }, channels := t.channels } ∧
      ∀ k, t.channel k =
        if (im.channel k).kind ≠ .none ∧ (im.channel k).analyzer.isSome = true ∧
            s.intake.buffer[1]? = (im.channel k).analyzer.map fun a => BitVec.ofNat 8 a.val then
          { s.channel k with
            iv := { (s.channel k).iv with received := min 65535 ((s.channel k).iv.received + 1) } }
        else s.channel k)

/-- FRESHNESS_TIMER_EXPIRY (R39, R120, R129): the record becomes STALE with its value kept, ANALYZER STALE becomes
ACTIVE on each mapped channel, which keeps its state and its dose, and of the mapped channels in ascending order
(assumption 14) each on which it was not ACTIVE queues one ALARM and has its interval marked (R146). After an
accepted sample that has restarted the freshness timer its expiry does not happen (R40); that the command changes
nothing in every state whose freshness timer does not stand at 0 ms is the model's choice (assumptions 10 and 11).
A restart that the event brings begins at its end (the model's choice, assumption 3). -/
def Obligations.AStaleAnalyzerIsReported : Prop :=
  (∀ (s : State) (im : Image) (a : Fin 8), s.service = some im → s.StatesDerived →
    (s.intake.records.get a).timer = some 0 →
    ∃ t : State, exec (.freshnessTimerExpiry a) s = .next t.settleRestart ∧
      t = { s with
        intake := { s.intake with records := t.intake.records }, channels := t.channels
        faultOut := t.faultOut, link := t.link, freeCount := t.freeCount } ∧
      t.intake.records.get a = ⟨(s.intake.records.get a).value, false, none⟩ ∧
      (∀ b, b ≠ a → t.intake.records.get b = s.intake.records.get b) ∧
      (∀ k, let c := s.channel k; let d := t.channel k
        ((im.channel k).kind ≠ .none ∧ (im.channel k).analyzer = some a →
          d.sup = { c.sup with stale := .active } ∧ d.state = c.state ∧ d.dose = c.dose ∧
          d.feeder = { c.feeder with inh := decide (c.state = .locked) } ∧
          d.iv = { c.iv with
            condActive := if c.sup.stale = .active then c.iv.condActive else true }) ∧
        ((im.channel k).kind = .none ∨ (im.channel k).analyzer ≠ some a → d = c)) ∧
      ∀ ks : List (Fin 4), ks.Pairwise (fun i j => i < j) →
        (∀ k, k ∈ ks ↔ (im.channel k).kind ≠ .none ∧ (im.channel k).analyzer = some a) →
        let queued := ks.foldl (fun u k => if (s.channel k).sup.stale = .active then u
          else u.enqueue ((t.channel k).alarmOf k .analyzerStale (s.channel k).state)) s
        t.link = queued.link ∧ t.freeCount = queued.freeCount) ∧
  (∀ (s : State) (a : Fin 8), (s.intake.records.get a).timer ≠ some 0 →
    exec (.freshnessTimerExpiry a) s = .next s)

/-! ### Stations and tables (Chapter 4) -/

/-- ANNOUNCE_EXPIRY (R58, R59, R60, R61, R62, R65, R66, R67, R68, R70, R72, R157, R164): both tables are aged, the
silence count is brought up to date, one state step is taken (JOIN counts, RUN may enter ISOLATED with its
ALARM, SILENT counts clean expiries and at the fourth enters JOIN, with the test of R157 at once, the ADDRESS
CONFLICT ALARM and the packing test), and in JOIN, RUN and ISOLATED a DEMAND with the sums of M′ takes the
announce slot, a waiting one being coalesced. That the ALARM and the packing test come in either order is the
model's choice (assumption 13). An expiry that finds the conflict-seen flag set is not clean and clears the flag
(R65), but one that arrived together with the conflict frame which brought SILENT leaves the flag set (R66); that
R66 is so read as the exception to R65 is the model's choice (assumption 24). A restart that the event brings begins
at its end (the model's choice, assumption 3). -/
def Obligations.AnAnnounceExpiryAgesStepsAndAnnounces : Prop :=
  ∀ (s : State) (im : Image), s.service = some im → s.peer.timer = some 0 →
    ∃ u t : State, exec .announceExpiry s = .next t.settleRestart ∧
      t = (if u.stn = .silent then u else ({ u with
        recs :=
          { u.recs with
            built := u.recs.built + 1
            coalesced := if u.link.slot.isSome then u.recs.coalesced + 1 else u.recs.coalesced }
        link :=
          { u.link with
            slot := some ⟨⟨im.station.weight, u.stn, s.recs.warning, ⟨s.stationDemand im 0,
              s.stationDemand im 1, s.stationDemand im 2, s.stationDemand im 3⟩⟩, 0⟩ } }
        : State).attemptTest) ∧
      u = { s with
        stn := u.stn, peer := u.peer, link := u.link, freeCount := u.freeCount
        recs := { s.recs with queue := u.recs.queue } } ∧
      let limit := im.station.silenceLimit
      let silence := if s.peer.heard then s.peer.silence
        else if s.peer.silence < limit then s.peer.silence + 1 else s.peer.silence
      u.peer.table = ((s.peer.table.filter fun e => decide (e.age < 5)).map fun e =>
        { e with age := e.age + 1 }) ∧
      (∀ g, (u.peer.capacity.get g).slot0 = ((s.peer.capacity.get g).slot0.filter fun x =>
          decide (x.age < 5)).map (fun x => { x with age := x.age + 1 }) ∧
        (u.peer.capacity.get g).slot1 = ((s.peer.capacity.get g).slot1.filter fun x =>
          decide (x.age < 5)).map fun x => { x with age := x.age + 1 }) ∧
      u.peer.silence = silence ∧ u.peer.heard = false ∧
      u.peer.timer = some (im.station.announcePeriod * 1000) ∧
      (s.stn = .join → u.peer.joinCount = s.peer.joinCount + 1 ∧
        u.stn = if s.peer.joinCount + 1 < 2 then .join
          else if limit ≤ silence then .isolated else .run) ∧
      (s.stn = .run → u.peer.joinCount = s.peer.joinCount ∧
        u.stn = if limit ≤ silence then .isolated else .run) ∧
      (s.stn = .isolated → u.peer.joinCount = s.peer.joinCount ∧ u.stn = .isolated) ∧
      (s.stn ≠ .silent →
        u.peer.conflictSeen = s.peer.conflictSeen ∧ u.peer.conflictClear = s.peer.conflictClear ∧
        u.peer.silencedAtExpiry = s.peer.silencedAtExpiry ∧ u.recs = s.recs ∧
        (u.stn = .isolated → s.stn ≠ .isolated → s.Queued u (.alarm .isolationBegun)) ∧
        (u.stn ≠ .isolated ∨ s.stn = .isolated → s.NothingQueued u)) ∧
      (s.stn = .silent →
        u.peer.conflictSeen = (s.peer.conflictSeen && s.peer.silencedAtExpiry) ∧
        u.peer.silencedAtExpiry = false ∧
        u.peer.conflictClear = (if s.peer.conflictSeen then s.peer.conflictClear
          else s.peer.conflictClear + 1) ∧
        (s.peer.conflictSeen = true ∨ s.peer.conflictClear + 1 < 4 →
          u.stn = .silent ∧ u.peer.joinCount = s.peer.joinCount ∧ u.recs = s.recs ∧
          s.NothingQueued u) ∧
        (s.peer.conflictSeen = false → 4 ≤ s.peer.conflictClear + 1 →
          u.stn = .join ∧ u.peer.joinCount = 0 ∧
          let joined := ({ s with stn := .join, peer := u.peer } : State).attemptTest
          let chosen := { joined with freeCount := joined.freeCount + 1 }
          let alarm := fun x : State => x.enqueue (.alarm .addressConflict)
          u = (alarm chosen).packingTest im ∨ u = alarm (chosen.packingTest im)))

/-- DEMAND_FRAME and SUPPLY_FRAME (R69, R71): the entry of the source is written with its weight held within 1 to
15, its state held as UNKNOWN when it is none of the three, and age 0; a SUPPLY, clamped, takes the slot of its
source, else an empty slot, else the older slot, slot 0 on equal ages. A source above 31, or a group above 3,
changes no table. A restart that the event brings begins at its end (the model's choice, assumption 3). -/
def Obligations.AnnouncementsEnterTheTables : Prop :=
  (∀ (s : State) (im : Image) (src dst w st fl : Byte) (d : Four Word), s.service = some im →
    src.toNat ≠ im.station.number → s.link.listens = true →
    s.peer.table.Pairwise (fun a b => a.number < b.number) →
    ∃ t : State, exec (.demandFrame src dst w st fl d) s = .next t.settleRestart ∧
      t = { s.heard with peer := { s.heard.peer with table := t.peer.table } } ∧
      (31 < src.toNat → t.peer.table = s.peer.table) ∧
      (src.toNat ≤ 31 →
        t.peer.table.Pairwise (fun a b => a.number < b.number) ∧
        ∀ e, e ∈ t.peer.table ↔ (e ∈ s.peer.table ∧ e.number ≠ src.toNat) ∨
          e = ⟨src.toNat, max 1 (min 15 w.toNat),
            if st = 1 then .join else if st = 2 then .run else if st = 3 then .isolated else .unknown,
            ⟨d.c0.toNat, d.c1.toNat, d.c2.toNat, d.c3.toNat⟩, fl.getLsbD 0, 0⟩)) ∧
  (∀ (s : State) (im : Image) (src dst group : Byte) (c : Word), s.service = some im →
    src.toNat ≠ im.station.number → s.link.listens = true →
    ∃ t : State, exec (.supplyFrame src dst group c) s = .next t.settleRestart ∧
      t = { s.heard with peer := { s.heard.peer with capacity := t.peer.capacity } } ∧
      (31 < src.toNat ∨ 3 < group.toNat → t.peer.capacity = s.peer.capacity) ∧
      ∀ g : Fin 4, (g.val ≠ group.toNat → t.peer.capacity.get g = s.peer.capacity.get g) ∧
        (src.toNat ≤ 31 → g.val = group.toNat →
          let old := s.peer.capacity.get g
          let new := t.peer.capacity.get g
          let x : CapacitySlot := ⟨src.toNat, min c.toNat (im.groups.get g).maxCapacity, 0⟩
          let holds := fun slot : Option CapacitySlot => ∃ y, slot = some y ∧ y.source = src.toNat
          (holds old.slot0 → new = ⟨some x, old.slot1⟩) ∧
          (¬ holds old.slot0 → holds old.slot1 → new = ⟨old.slot0, some x⟩) ∧
          (¬ holds old.slot0 → ¬ holds old.slot1 → old.slot0 = none → new = ⟨some x, old.slot1⟩) ∧
          (¬ holds old.slot1 → ∀ y, old.slot0 = some y → y.source ≠ src.toNat → old.slot1 = none →
            new = ⟨old.slot0, some x⟩) ∧
          (∀ y z, old.slot0 = some y → old.slot1 = some z → y.source ≠ src.toNat →
            z.source ≠ src.toNat →
            new = if y.age < z.age then ⟨old.slot0, some x⟩ else ⟨some x, old.slot1⟩)))

/-- OTHER_FRAME and LINK_REJECT (R61, R63, R158, R162, R163, R171): a frame for no block is counted as accepted, sets
the silence count to 0 and the heard flag, and takes a station in ISOLATED to JOIN with an ALARM. Bytes whose
length byte is above 88, that end before byte 6 + n, whose CRC does not agree, or whose payload length is none
of their kind's are a link reject: counted as one, and nothing else but that the line has been driven; other
bytes are none. While the part drives a frame, and after an attempt of its own has collided or completed until
the line is next idle, the receiver takes and counts nothing; that the command of a frame changes nothing there is
the model's choice (assumption 10). A restart that the event brings begins at its end (the model's choice,
assumption 3). -/
def Obligations.FramesAreHeardOrRejected : Prop :=
  (∀ (s : State) (im : Image) (src kind dst : Byte), s.service = some im →
    src.toNat ≠ im.station.number → s.link.listens = true →
    exec (.otherFrame src kind dst) s = .next s.heard.settleRestart ∧
    (s.stn ≠ .isolated → s.heard = { s with
      peer := { s.peer with silence := 0, heard := true }
      recs := { s.recs with accepted := s.recs.accepted + 1 }
      link := { s.link with line := .driven } }) ∧
    (s.stn = .isolated → s.heard = { s with
      stn := .join
      peer := { s.peer with silence := 0, heard := true, joinCount := 0 }
      recs := { s.recs with accepted := s.recs.accepted + 1 }
      link :=
        ({ s.link with line := .driven } : Link).enqueue ⟨.alarm .isolationEnded, false, 0, false⟩ })) ∧
  (∀ (s : State) (im : Image) (bytes : List Byte), s.service = some im → s.link.listens = true →
    let n := (bytes.getD 4 0).toNat
    let kind := (bytes.getD 2 0).toNat
    let lengths : List (Nat × List Nat) :=
      [(1, [19]), (2, [5]), (3, [10]), (4, [3, 5, 24, 25, 43, 53, 55, 62, 81, 88]), (5, [27, 54, 81]),
        (6, [5]), (7, [4]), (8, [4]), (9, [2]), (10, [0]), (11, [2]), (12, [2]), (13, [1]), (14, [0]),
        (15, [4])]
    let fails := 88 < n ∨ bytes.length < n + 7 ∨
      (crc16 (bytes.take (n + 5))).toNat
        ≠ 256 * (bytes.getD (n + 5) 0).toNat + (bytes.getD (n + 6) 0).toNat ∨
      ∃ ls, (kind, ls) ∈ lengths ∧ n ∉ ls
    (commandOfFrame im.station.number bytes = .linkReject bytes ↔ fails) ∧
    (fails → exec (.linkReject bytes) s = .next { s with
      link := { s.link with line := .driven }
      recs := { s.recs with rejected := s.recs.rejected + 1 } }) ∧
    (¬ fails → exec (.linkReject bytes) s = .next s)) ∧
  (∀ (s : State) (c : Instr), s.link.tx ≠ .idle ∨ s.link.line = .own →
    ((sentFrame c).isSome = true ∨ c = .conflictFrame ∨ (∃ src kind dst, c = .otherFrame src kind dst) ∨
      ∃ bytes, c = .linkReject bytes) →
    exec c s = .next s)

/-- CONFLICT_FRAME, and any frame command that bears the station's own number as its source (R61, R64, R65, R163,
R164): from JOIN, RUN or ISOLATED the station enters SILENT with its queue and slot emptied, a station that
leaves ISOLATED having queued its ALARM; in SILENT the clean count starts again. The tables, the channels and the
waiting records stay. A restart that the event brings begins at its end (the model's choice, assumption 3). That the
part holds whether the frame which brought SILENT arrived together with an announce expiry is the model's own
(R66, assumption 24). -/
def Obligations.AConflictFrameSilencesTheStation : Prop :=
  ∀ (s : State) (im : Image), s.service = some im → s.link.listens = true →
    ∃ t : State, exec .conflictFrame s = .next t.settleRestart ∧
      t = { s with
        stn := .silent, link := t.link
        peer :=
          { s.peer with
            silence := 0, heard := true, conflictClear := 0, conflictSeen := true
            silencedAtExpiry := if s.stn = .silent then s.peer.silencedAtExpiry
              else decide (s.peer.timer = some 0) }
        recs := { s.recs with accepted := s.recs.accepted + 1 } } ∧
      (let emptied := fun l : Link =>
        { l with
          queue := [], slot := none, line := .driven
          awaitedLeft := l.awaitedLeft || l.queue.any Entry.awaited }
      (s.stn = .silent → t.link = { s.link with line := .driven }) ∧
      (s.stn = .join ∨ s.stn = .run → t.link = emptied s.link) ∧
      (s.stn = .isolated →
        t.link = emptied (s.link.enqueue ⟨.alarm .isolationEnded, false, 0, false⟩))) ∧
      (∀ (c : Instr) (kind : Nat) (src dst : Byte) (payload : List Byte),
        sentFrame c = some (kind, src, dst, payload) → src.toNat = im.station.number →
        exec c s = .next t.settleRestart) ∧
      ∀ src kind dst, src.toNat = im.station.number →
        exec (.otherFrame src kind dst) s = .next t.settleRestart

/-! ### Requests (Chapters 8 and 9) -/

/-- TARGET on a configured channel (R133, R134, R135, R136): the value limited to the range of the kind is set, or
"revert" clears the override, at once or in the pending slot; the ANSWER carries the code and the value. A
restart that the event brings begins at its end (the model's choice, assumption 3). -/
def Obligations.ATargetIsSetOrStaged : Prop :=
  ∀ (s : State) (im : Image) (src dst tag ch flags : Byte) (value : Half) (k : Fin 4),
    s.service = some im → src.toNat ≠ im.station.number →
    (dst.toNat = im.station.number ∨ dst = 255) → s.stn.transmits = true → s.link.listens = true →
    ch.toNat = k.val → (im.channel k).kind ≠ .none →
    let c := s.channel k
    let top := if (im.channel k).kind = .coagulant then 20000 else 1000
    let held := min value.toNat top
    let revert := flags.getLsbD 1
    exec (.target src dst tag ch flags value) s = .next ({ s.heard.setChannel k { c with
        dose := if flags.getLsbD 0 then
          { c.dose with pendingTarget := some (if revert then .revert else .value held) }
        else { c.dose with targetOverride := if revert then none else some held } } with
      link := s.heard.link.enqueue ⟨.answer ⟨src, tag, 6,
        if revert = false ∧ top < value.toNat then .clamped else .accepted, ch,
        .value (if revert then none else some held)⟩, false, 0, false⟩ } : State).settleRestart

/-- PROFILE on a configured channel (R19, R20, R134, R137): an index above 7 is refused with the active index; a
deferred item is staged; an immediate one sets or removes the override and forms the active index, and a change
of it clears the target override and sets Eest of a chlorine channel to the new E0. A restart that the event
brings begins at its end (the model's choice, assumption 3). -/
def Obligations.AProfileIsSetOrStaged : Prop :=
  ∀ (s : State) (im : Image) (src dst tag ch flags index : Byte) (k : Fin 4),
    s.service = some im → src.toNat ≠ im.station.number →
    (dst.toNat = im.station.number ∨ dst = 255) → s.stn.transmits = true → s.link.listens = true →
    ch.toNat = k.val → (im.channel k).kind ≠ .none →
    let c := s.channel k
    let release := flags.getLsbD 1
    let reply := fun (code : ResultCode) (v : Nat) (d : DoseEngine) =>
      ({ s.heard.setChannel k { c with dose := d } with
        link := s.heard.link.enqueue
          ⟨.answer ⟨src, tag, 7, code, ch, .value (some v)⟩, false, 0, false⟩ } : State).settleRestart
    (release = false → 8 ≤ index.toNat → exec (.profile src dst tag ch flags index) s =
      .next (reply .refusedValue c.dose.activeIndex.val c.dose)) ∧
    (∀ i : Fin 8, release = true ∨ index.toNat = i.val →
      (flags.getLsbD 0 = true → exec (.profile src dst tag ch flags index) s =
        .next (reply .accepted (if release then 255 else i.val)
          { c.dose with pendingProfile := some (if release then .release else .index i) })) ∧
      (flags.getLsbD 0 = false →
        let j := if release then s.selector.index else i
        let d : DoseEngine := { c.dose with profileOverride := if release then none else some i }
        exec (.profile src dst tag ch flags index) s = .next (reply .accepted j.val
          (if j = c.dose.activeIndex then d
          else { d with
            activeIndex := j
            targetOverride := none
            eest := if (im.channel k).kind = .chlorine then ((im.channel k).profiles.get j).e0
              else c.dose.eest }))))

/-- CEILING and FREEZE on a configured channel (R22, R134, R140, R141): a frozen ceiling and a value of 0 are
refused, a value above the native ceiling is limited, Deff above the new Cw falls to it at once; FREEZE sets the
flag. A restart that the event brings begins at its end (the model's choice, assumption 3). -/
def Obligations.ACeilingIsSetUntilFrozen : Prop :=
  ∀ (s : State) (im : Image) (src dst tag ch : Byte) (value : Half) (k : Fin 4),
    s.service = some im → src.toNat ≠ im.station.number →
    (dst.toNat = im.station.number ∨ dst = 255) → s.stn.transmits = true → s.link.listens = true →
    ch.toNat = k.val → (im.channel k).kind ≠ .none →
    let c := s.channel k
    let native := (im.channel k).nativeCeiling
    let reply := fun (kind : Nat) (code : ResultCode) (x : AnswerContent) (d : DoseEngine) =>
      ({ s.heard.setChannel k { c with dose := d } with
        link := s.heard.link.enqueue
          ⟨.answer ⟨src, tag, kind, code, ch, x⟩, false, 0, false⟩ } : State).settleRestart
    let cw := min value.toNat native
    (c.dose.freeze = true → exec (.ceiling src dst tag ch value) s =
      .next (reply 8 .refusedFrozen (.value (some c.dose.cw)) c.dose)) ∧
    (c.dose.freeze = false → value = 0 → exec (.ceiling src dst tag ch value) s =
      .next (reply 8 .refusedValue (.value (some c.dose.cw)) c.dose)) ∧
    (c.dose.freeze = false → value ≠ 0 → exec (.ceiling src dst tag ch value) s =
      .next (reply 8 (if native < value.toNat then .clamped else .accepted) (.value (some cw))
        { c.dose with cw := cw, deff := min c.dose.deff cw })) ∧
    exec (.freeze src dst tag ch) s =
      .next (reply 9 .accepted .plain { c.dose with freeze := true })

/-- COMMIT (R133, R138): in every state of service each configured channel takes its pending profile item and then
its pending target item, and its slot is emptied; nothing is answered. A restart that the event brings begins at
its end (the model's choice, assumption 3). -/
def Obligations.ACommitAppliesWhatIsStaged : Prop :=
  ∀ (s : State) (im : Image) (src dst : Byte), s.service = some im → src.toNat ≠ im.station.number →
    (dst.toNat = im.station.number ∨ dst = 255) → s.link.listens = true →
    ∃ t : State, exec (.commit src dst) s = .next t.settleRestart ∧
      t = { s.heard with channels := t.channels } ∧
      ∀ k, let c := s.channel k; let cc := im.channel k
        (cc.kind = .none → t.channel k = c) ∧
        (cc.kind ≠ .none →
          let own := match c.dose.pendingProfile with
            | some (.index i) => some i
            | some .release => none
            | none => c.dose.profileOverride
          let i := if c.dose.pendingProfile.isSome then own.getD s.selector.index
            else c.dose.activeIndex
          let changed := i ≠ c.dose.activeIndex
          t.channel k = { c with
            dose :=
              { c.dose with
                profileOverride := own
                activeIndex := i
                targetOverride := match c.dose.pendingTarget with
                  | some (.value v) => some v
                  | some .revert => none
                  | none => if changed then none else c.dose.targetOverride
                eest := if changed ∧ cc.kind = .chlorine then (cc.profiles.get i).e0 else c.dose.eest
                pendingProfile := none
                pendingTarget := none } })

/-- CLEAR_FEEDER and RELEASE on a configured channel (R105, R106, R124, R125, R126, R129, R142): refused with
REFUSED-STATE in another state, RELEASE with REFUSED-PRESENT while a cause is present; accepted, they clear the
fault or every condition, empty the list, and the channel leaves FAULTED or LOCKED with an ALARM. The stroke interval
timer and the interval's figures stay, but that ANALYZER STALE becoming ACTIVE by RELEASE marks the interval
(R146). That the ALARM
is queued before the ANSWER is the model's reading (assumption 18). A restart that the event brings begins at
its end (the model's choice, assumption 3). -/
def Obligations.AFaultIsClearedAndALockReleased : Prop :=
  ∀ (s : State) (im : Image) (src dst tag ch : Byte) (k : Fin 4),
    s.service = some im → src.toNat ≠ im.station.number →
    (dst.toNat = im.station.number ∨ dst = 255) → s.stn.transmits = true → s.link.listens = true →
    ch.toNat = k.val → (im.channel k).kind ≠ .none → s.StatesDerived →
    let c := s.channel k
    let cc := im.channel k
    let h := s.heard
    let answer := fun (l : Link) (kind : Nat) (code : ResultCode) =>
      l.enqueue ⟨.answer ⟨src, tag, kind, code, ch, .plain⟩, false, 0, false⟩
    let gone := (c.sup.highHigh = .active →
        (∃ r, c.sup.lastResidual = some r ∧ r < cc.hhLimit) ∧ c.sup.stale = .clear) ∧
      (c.sup.runOn = .active → c.sup.quietTimer = none)
    (c.state ≠ .faulted → exec (.clearFeeder src dst tag ch) s =
      .next ({ h with link := answer h.link 11 .refusedState } : State).settleRestart) ∧
    (c.state ≠ .locked → exec (.release src dst tag ch) s =
      .next ({ h with link := answer h.link 12 .refusedState } : State).settleRestart) ∧
    (c.state = .locked → ¬ gone → exec (.release src dst tag ch) s =
      .next ({ h with link := answer h.link 12 .refusedPresent } : State).settleRestart) ∧
    (c.state = .faulted → ∃ t : State, exec (.clearFeeder src dst tag ch) s = .next t.settleRestart ∧
      h.EventOn t k ∧
      let d := t.channel k
      d.sup = { c.sup with feederFault := .clear } ∧ d.dose = c.dose ∧ d.iv = c.iv ∧
      d.feeder = { c.feeder with strokes := [], misses := 0, inh := false } ∧
      d.state = (if c.sup.high = .active then .held else if s.flow.idle then .standby else .dosing) ∧
      t.freeCount = s.freeCount ∧
      t.link = answer (h.link.enqueue ⟨d.alarmOf k .clearFeeder .faulted, false, 0, false⟩) 11 .accepted) ∧
    (c.state = .locked → gone → ∃ t : State, exec (.release src dst tag ch) s = .next t.settleRestart ∧
      h.EventOn t k ∧
      let d := t.channel k
      d.sup.low = .clear ∧ d.sup.high = .clear ∧ d.sup.highHigh = .clear ∧ d.sup.runOn = .clear ∧
      d.sup.feederFault = .clear ∧
      d.sup.stale = (if ∃ a, cc.analyzer = some a ∧ (s.intake.records.get a).fresh = false
        then .active else .clear) ∧
      d.sup.tL = none ∧ d.sup.tH = none ∧ d.sup.tHH = none ∧ d.sup.runOnTimer = none ∧
      d.sup.quietTimer = none ∧ d.sup.lastResidual = c.sup.lastResidual ∧
      d.sup.lockout = c.sup.lockout.map (fun r => { r with released := true }) ∧
      d.feeder = { c.feeder with strokes := [], misses := 0, ac := 0, inh := false } ∧
      d.dose = { c.dose with
        eest := if cc.kind = .chlorine then (cc.profiles.get c.dose.activeIndex).e0
          else c.dose.eest } ∧
      d.iv = { c.iv with
        condActive := if d.sup.stale = .active ∧ c.sup.stale ≠ .active then true else c.iv.condActive } ∧
      d.state = (if s.flow.idle then .standby else .dosing) ∧
      t.freeCount = s.freeCount ∧
      t.link = answer (h.link.enqueue ⟨d.alarmOf k .release .locked, false, 0, false⟩) 12 .accepted)

/-- FLUSH (R133, R144) and PACKING_TEST (R148, R149): a flush packs the waiting records three to a frame, oldest
first, into free entries; the packing test packs frames of the packing count while that many records wait and an
entry is free, which may begin an attempt (R157); in SILENT neither does anything. A restart that the event
brings begins at its end (the model's choice, assumption 3). -/
def Obligations.RecordsArePackedIntoFreeEntries : Prop :=
  (∀ (s : State) (im : Image) (src dst : Byte), s.service = some im → src.toNat ≠ im.station.number →
    (dst.toNat = im.station.number ∨ dst = 255) → s.stn.transmits = true → s.link.listens = true →
    ∃ (t : State) (frames : List (List DoseRecord)), exec (.flush src dst) s = .next t.settleRestart ∧
      t = { s.heard with
        recs := { s.heard.recs with queue := t.recs.queue }
        link := { s.heard.link with queue := t.link.queue } } ∧
      let free := 8 - s.heard.link.queue.length
      t.recs.queue = s.recs.queue.drop (3 * free) ∧
      t.link.queue = s.heard.link.queue ++ frames.map (fun rs => ⟨.records rs, false, 0, false⟩) ∧
      frames.flatten = s.recs.queue.take (3 * free) ∧
      (∀ rs ∈ frames, 1 ≤ rs.length ∧ rs.length ≤ 3) ∧ ∀ rs ∈ frames.dropLast, rs.length = 3) ∧
  (∀ (s : State) (im : Image), s.service = some im →
    exec .packingTest s = .next (s.packingTest im) ∧
    (s.stn = .silent ∨ s.recs.queue.length < im.station.packingCount ∨ s.recs.queue = [] ∨
      8 ≤ s.link.queue.length → exec .packingTest s = .next s) ∧
    (s.stn ≠ .silent → 1 ≤ im.station.packingCount →
      let n := im.station.packingCount
      let m := min (8 - s.link.queue.length) (s.recs.queue.length / n)
      ∃ frames : List (List DoseRecord),
        frames.length = m ∧ frames.flatten = s.recs.queue.take (m * n) ∧ (∀ rs ∈ frames, rs.length = n) ∧
        (0 < m → exec .packingTest s = .next ({ s with
          recs := { s.recs with queue := s.recs.queue.drop (m * n) }
          link :=
            { s.link with
              queue := s.link.queue ++ frames.map fun rs => ⟨.records rs, false, 0, false⟩ } }
          : State).attemptTest)))

/-- QUERY (R134, R150, R151, R152): one ANSWER is queued and nothing else changes; its code, its channel and its
contents by subject and parameter. A restart that the event brings begins at its end (the model's choice,
assumption 3). -/
def Obligations.AQueryIsAnswered : Prop :=
  ∀ (s : State) (im : Image) (src dst tag subject p1 p2 : Byte),
    s.service = some im → src.toNat ≠ im.station.number →
    (dst.toNat = im.station.number ∨ dst = 255) → s.stn.transmits = true → s.link.listens = true →
    let h := s.heard
    let answers := fun (code : ResultCode) (ch : Byte) (x : AnswerContent) =>
      exec (.query src dst tag subject p1 p2) s = .next ({ h with
        link := h.link.enqueue ⟨.answer ⟨src, tag, 15, code, ch, x⟩, false, 0, false⟩ }
        : State).settleRestart
    (subject = 1 → (∀ k : Fin 4, p1.toNat = k.val → (im.channel k).kind = .none) →
      answers .refusedChannel p1 .plain) ∧
    (subject = 1 → ∀ k : Fin 4, p1.toNat = k.val → (im.channel k).kind ≠ .none →
      (p2 ≠ 0 → p2 ≠ 1 → answers .refusedValue p1 .plain) ∧
      (p2 = 0 ∨ p2 = 1 → ∃ r, answers .accepted p1 (.channel r) ∧
        let c := s.channel k
        let cc := im.channel k
        r.view = (if p2 = 0 then .active else .pending) ∧ r.kind = cc.kind ∧ r.group = cc.group ∧
        r.state = c.state ∧ r.low = c.sup.low ∧ r.high = c.sup.high ∧ r.highHigh = c.sup.highHigh ∧
        r.runOn = c.sup.runOn ∧ r.feederFault = c.sup.feederFault ∧ r.stale = c.sup.stale ∧
        r.cw = c.dose.cw ∧ r.freeze = c.dose.freeze ∧ r.deff = c.dose.deff ∧ r.m = c.dose.m ∧
        r.mCap = c.dose.mCap ∧ r.gch = c.dose.gch ∧ r.feedLimit = c.dose.feedLimit ∧
        r.ac = c.feeder.ac ∧ r.outstanding = c.feeder.strokes.length ∧ r.misses = c.feeder.misses ∧
        r.issued = c.iv.issued ∧ r.confirmed = c.iv.confirmed ∧ r.missed = c.iv.missed ∧
        r.late = c.iv.late ∧ r.unexpected = c.iv.unexpected ∧
        r.estimate = (if cc.kind = .chlorine then c.dose.eest
          else c.dose.tdp.getD (cc.profiles.get c.dose.activeIndex).k) ∧
        (∀ a, cc.analyzer = some a → r.analyzer = (s.intake.records.get a).value) ∧
        (cc.analyzer = none → r.analyzer = none) ∧
        r.base = (if cc.kind = .chlorine then (cc.profiles.get r.profile).rt
          else (cc.profiles.get r.profile).b) ∧
        (p2 = 0 → r.profile = c.dose.activeIndex ∧ r.target = c.dose.targetOverride ∧
          r.sourceOverride = c.dose.profileOverride.isSome ∧ r.profileFromSlot = false ∧
          r.targetFromSlot = false) ∧
        (p2 = 1 →
          r.profileFromSlot = c.dose.pendingProfile.isSome ∧
          r.targetFromSlot = c.dose.pendingTarget.isSome ∧
          (∀ i, c.dose.pendingProfile = some (.index i) → r.profile = i ∧ r.sourceOverride = true) ∧
          (c.dose.pendingProfile = some .release →
            r.profile = s.selector.index ∧ r.sourceOverride = false) ∧
          (c.dose.pendingProfile = none → r.profile = c.dose.activeIndex ∧
            r.sourceOverride = c.dose.profileOverride.isSome) ∧
          (∀ v, c.dose.pendingTarget = some (.value v) → r.target = some v) ∧
          (c.dose.pendingTarget = some .revert → r.target = none) ∧
          (c.dose.pendingTarget = none → r.target = c.dose.targetOverride)))) ∧
    (subject = 2 → ∃ groups, answers .accepted 255 (.station h.stn 0 s.recs.warning groups) ∧
      ∀ g, groups.get g = ⟨s.capacityOf im g, (s.share.get g).dOwn, (s.share.get g).gStation⟩) ∧
    (subject = 3 → p1.toNat ≤ 31 → answers .accepted 255 (.peers s.peer.table.length
      ((s.peer.table.filter fun e => decide (p1.toNat ≤ e.number)).take 4))) ∧
    (subject = 3 → 31 < p1.toNat → answers .refusedValue 255 .plain) ∧
    (subject = 4 → (∀ k : Fin 4, p1.toNat = k.val → (im.channel k).kind = .none) →
      answers .refusedChannel p1 .plain) ∧
    (subject = 4 → ∀ k : Fin 4, p1.toNat = k.val → (im.channel k).kind ≠ .none →
      answers .accepted p1 (.lockout (s.channel k).sup.lockout)) ∧
    (subject = 5 → answers .accepted 255 (.health s.recs.health s.recs.warning)) ∧
    (subject ≠ 1 → subject ≠ 2 → subject ≠ 3 → subject ≠ 4 → subject ≠ 5 →
      answers .refusedValue 255 .plain)

/-- Requests that are not acted on (R133, R163): one that names a channel above 3 or of kind NONE is answered
REFUSED-CHANNEL and changes nothing; one for another station, and an addressed request or FLUSH in SILENT, is
only heard. A restart that the event brings begins at its end (the model's choice, assumption 3). -/
def Obligations.SomeRequestsAreNotActedOn : Prop :=
  (∀ (s : State) (im : Image) (src dst tag ch flags index : Byte) (value : Half),
    s.service = some im → src.toNat ≠ im.station.number →
    (dst.toNat = im.station.number ∨ dst = 255) → s.stn.transmits = true → s.link.listens = true →
    (∀ k : Fin 4, ch.toNat = k.val → (im.channel k).kind = .none) →
    let refused := fun (kind : Nat) (x : AnswerContent) =>
      ({ s.heard with
          link := s.heard.link.enqueue
            ⟨.answer ⟨src, tag, kind, .refusedChannel, ch, x⟩, false, 0, false⟩ }
        : State).settleRestart
    exec (.target src dst tag ch flags value) s = .next (refused 6 (.value none)) ∧
    exec (.profile src dst tag ch flags index) s = .next (refused 7 (.value none)) ∧
    exec (.ceiling src dst tag ch value) s = .next (refused 8 (.value none)) ∧
    exec (.freeze src dst tag ch) s = .next (refused 9 .plain) ∧
    exec (.clearFeeder src dst tag ch) s = .next (refused 11 .plain) ∧
    exec (.release src dst tag ch) s = .next (refused 12 .plain)) ∧
  (∀ (s : State) (im : Image) (c : Instr), s.service = some im → s.link.listens = true →
    (∃ kind src dst payload, sentFrame c = some (kind, src, dst, payload) ∧ 6 ≤ kind ∧
      src.toNat ≠ im.station.number ∧
      ((dst.toNat ≠ im.station.number ∧ dst ≠ 255) ∨ (s.stn = .silent ∧ kind ≠ 10))) →
    exec c s = .next s.heard.settleRestart)

/-! ### The transmit side (Chapter 10) -/

/-- TRANSMIT_ATTEMPT (R157, R161, R164), the line becoming idle: the oldest of the waiting frames with the lowest
priority number goes IN ATTEMPT and its bytes are driven; the DEMAND of the announce slot counts at priority 2
and leaves the slot; the frame carries the part of the overflow flag of its kind; without a waiting frame, and in
SILENT, nothing begins. The test made as a frame is queued or announced, or JOIN entered from SILENT, does the
same where the line is known to be idle and a frame waits, or finds that another station has begun to drive it
(the model's choice, assumptions 2 and 15). That TRANSMIT_ATTEMPT changes nothing while the part drives a frame,
since its line does not become idle then, is the model's choice too (assumption 10). -/
def Obligations.AnAttemptTakesTheFirstFrame : Prop :=
  (∀ s : State, s.link.tx ≠ .idle → exec .transmitAttempt s = .next s) ∧
  (∀ (s : State) (im : Image), s.service = some im → s.link.tx = .idle →
    (s.stn = .silent → exec .transmitAttempt s = .next { s with
      link := { s.link with line := .idle } }) ∧
    (s.stn ≠ .silent → s.link.slot = none → (∀ x ∈ s.link.queue, x.inAttempt = true) →
      exec .transmitAttempt s = .next { s with link := { s.link with line := .idle } }) ∧
    (s.stn ≠ .silent → ∀ pre e post, s.link.queue = pre ++ e :: post → e.inAttempt = false →
      (∀ x ∈ s.link.queue, x.inAttempt = false → e.body.priority ≤ x.body.priority) →
      (∀ x ∈ pre, x.inAttempt = false → x.body.priority ≠ e.body.priority) →
      (s.link.slot = none ∨ e.body.priority < 2) →
      exec .transmitAttempt s = .next { s with
        link :=
          { s.link with
            queue := pre ++ { e with inAttempt := true } :: post
            tx := .entry (e.body.isAlarm && s.link.overflowAlarm)
              (e.body.wire im.station.number (e.body.isAlarm && s.link.overflowAlarm))
            line := .own } }) ∧
    (s.stn ≠ .silent → ∀ a, s.link.slot = some a →
      (∀ x ∈ s.link.queue, x.inAttempt = false → 2 ≤ x.body.priority) →
      exec .transmitAttempt s = .next { s with
        link :=
          { s.link with
            slot := none
            tx := .demand a s.link.overflowDemand
              (a.demand.wire im.station.number s.link.overflowDemand)
            line := .own } })) ∧
  (∀ (s : State) (im : Image), s.service = some im →
    let may := s.stn ≠ .silent ∧ s.link.tx = .idle ∧ s.link.line = .idle ∧
      (s.link.slot ≠ none ∨ ∃ e ∈ s.link.queue, e.inAttempt = false)
    (¬ may → s.attemptTest = s) ∧
    (may → s.attemptTest = { s with
        link := { s.link with line := .driven }, freeCount := s.freeCount + 1 } ∨
      ∃ u : State, exec .transmitAttempt s = .next u ∧
        s.attemptTest = { u with freeCount := s.freeCount + 1 }))

/-- How an attempt ends (R158, R159, R161, R162). Lost: the frame waits again with its count. Collided: its count rises,
and at 3 it is dropped and counted as a link reject. Completed: it leaves the queue, the part of the overflow
flag it carried is cleared, a DEMAND counts as sent. A DEMAND that comes back gives way to a newer one. A freed
entry brings the packing test. After a lost attempt the receiver takes the winning frame; after the other two the
line stays the part's own until it is next idle. A restart that the event brings begins at its end (the model's
choice, assumption 3). -/
def Obligations.AnAttemptEndsInOneOfThreeWays : Prop :=
  (∀ (s : State) (im : Image) (pre post : List Entry) (e : Entry) (overflow : Bool) (wire : List Byte),
    s.service = some im → s.link.tx = .entry overflow wire → s.link.queue = pre ++ e :: post →
    e.inAttempt = true → (∀ x ∈ pre ++ post, x.inAttempt = false) →
    let left : Link :=
      { s.link with
        queue := pre ++ post, tx := .idle, line := .own
        awaitedLeft := s.link.awaitedLeft || e.awaited }
    exec .frameLost s = .next { s with
      link :=
        { s.link with
          queue := pre ++ { e with inAttempt := false } :: post, tx := .idle, line := .driven } } ∧
    (e.collisions < 2 → exec .frameCollided s = .next { s with
      link :=
        { s.link with
          queue := pre ++ { e with inAttempt := false, collisions := e.collisions + 1 } :: post
          tx := .idle, line := .own } }) ∧
    (2 ≤ e.collisions → exec .frameCollided s = .next (({ s with
      link := left, recs := { s.recs with rejected := s.recs.rejected + 1 } }
      : State).packingTest im).settleRestart) ∧
    exec .frameCompleted s = .next (({ s with
      link := { left with overflowAlarm := s.link.overflowAlarm && !overflow } }
      : State).packingTest im).settleRestart) ∧
  (∀ (s : State) (a : Announcement) (overflow : Bool) (wire : List Byte),
    s.link.tx = .demand a overflow wire →
    (s.link.slot = none → exec .frameLost s =
      .next { s with link := { s.link with slot := some a, tx := .idle, line := .driven } }) ∧
    (s.link.slot ≠ none → exec .frameLost s =
      .next { s with
        link := { s.link with tx := .idle, line := .driven }
        recs := { s.recs with coalesced := s.recs.coalesced + 1 } }) ∧
    (a.collisions < 2 → s.link.slot = none → exec .frameCollided s =
      .next { s with
        link := { s.link with slot := some ⟨a.demand, a.collisions + 1⟩, tx := .idle, line := .own } }) ∧
    (a.collisions < 2 → s.link.slot ≠ none → exec .frameCollided s =
      .next { s with
        link := { s.link with tx := .idle, line := .own }
        recs := { s.recs with coalesced := s.recs.coalesced + 1 } }) ∧
    (2 ≤ a.collisions → exec .frameCollided s =
      .next { s with
        link := { s.link with tx := .idle, line := .own }
        recs := { s.recs with rejected := s.recs.rejected + 1 } }) ∧
    exec .frameCompleted s = .next { s with
      link :=
        { s.link with
          tx := .idle, line := .own, overflowDemand := s.link.overflowDemand && !overflow }
      recs := { s.recs with sent := s.recs.sent + 1 } })

/-- The drop order (R160, R161): a free entry; else the newest waiting RECORDS gives way; else, for an ALARM, the
oldest waiting ANSWER; else the frame itself is dropped, an ALARM setting both parts of the overflow flag. Then
the test of R157 is made. -/
def Obligations.TheDropOrder : Prop :=
  (∀ (s : State) (b : Body), s.enqueue b =
    ({ s with link := s.link.enqueue ⟨b, false, 0, false⟩ } : State).attemptTest) ∧
  ∀ (l : Link) (e : Entry),
    (l.queue.length < 8 → l.enqueue e = { l with queue := l.queue ++ [e] }) ∧
    (8 ≤ l.queue.length → ∀ pre x post, l.queue = pre ++ x :: post → x.inAttempt = false →
      x.body.priority = 6 → (∀ y ∈ post, y.inAttempt = false → y.body.priority ≠ 6) →
      l.enqueue e = { l with queue := pre ++ post ++ [e] }) ∧
    (8 ≤ l.queue.length → (∀ y ∈ l.queue, y.inAttempt = false → y.body.priority ≠ 6) →
      (e.body.isAlarm = true → ∀ pre x post, l.queue = pre ++ x :: post → x.inAttempt = false →
        x.body.priority = 4 → (∀ y ∈ pre, y.inAttempt = false → y.body.priority ≠ 4) →
        l.enqueue e = { l with
          queue := pre ++ post ++ [e], awaitedLeft := l.awaitedLeft || x.awaited }) ∧
      (e.body.isAlarm = true → (∀ y ∈ l.queue, y.inAttempt = false → y.body.priority ≠ 4) →
        l.enqueue e = { l with overflowDemand := true, overflowAlarm := true }) ∧
      (e.body.isAlarm = false → l.enqueue e = { l with awaitedLeft := l.awaitedLeft || e.awaited }))

/-- Contention (R155, R158): of two frames whose first two bytes differ, the one with the lower priority number, or
between equals the lower source, drives the first bit that differs dominant; the other reads it, has read its
own bits until then, and has lost. -/
def Obligations.TheLowerNumberWinsTheLine : Prop :=
  ∀ (p q : Byte) (src src' : Byte) (rest rest' : List Byte),
    p.toNat < q.toNat ∨ (p = q ∧ src.toNat < src'.toNat) →
    let won := frameBits (p :: src :: rest)
    let lost := frameBits (q :: src' :: rest')
    judgeBits 0 lost (List.zipWith lineLevel won lost) = .lost ∧
      ∃ n, n < 16 ∧ won.take n = lost.take n ∧ won[n]? = some false ∧ lost[n]? = some true

/-! ### Records and health (Chapter 9) -/

/-- REPORT_TIMER_EXPIRY (R146, R147, R148, R153, R154): a record for each configured channel, ascending, numbered
from the counter, appended to a queue of 16; the interval begins anew; each attribute takes its value, its worst
and its raw count; the warning is set while a value lies below its threshold; then the packing test. The credit
dropped is added to the shortfall (assumption 19). -/
def Obligations.AReportClosesTheInterval : Prop :=
  ∀ (s : State) (im : Image), s.service = some im → s.recs.timer = some 0 →
    s.recs.queue.length ≤ 16 → s.recs.seq ≤ 65535 →
    ∃ t : State, exec .reportTimerExpiry s = .next (t.packingTest im) ∧
      t = { s with channels := t.channels, recs := t.recs } ∧
      t.recs.timer = some (im.station.reportInterval * 1000) ∧
      t.recs.seq = (s.recs.seq + im.configured.length) % 65536 ∧
      (let all := s.recs.queue ++ im.configured.zipIdx.map fun (k, i) =>
        let c := s.channel k
        { seq := (s.recs.seq + i) % 65536
          channel := k
          state := c.state
          volume := c.iv.volume
          granted := min (2 ^ 32 - 1) c.iv.granted
          confirmedMass := c.iv.confirmedMass
          shortfall := min (2 ^ 32 - 1) (c.iv.shortfall + c.iv.creditDropped)
          meanDose := if c.iv.volume = 0 then 0 else min 65535 (c.iv.granted * 100 / c.iv.volume)
          minResidual := c.iv.minResidual
          maxResidual := c.iv.maxResidual
          feedLimitSeen := c.iv.feedLimitSeen
          unusableSeen := decide (0 < c.iv.unusable)
          condActive := c.iv.condActive }
      t.recs.queue = all.drop (all.length - 16)) ∧
      (∀ k, t.channel k =
        if (im.channel k).kind = .none then s.channel k
        else { s.channel k with
          iv := { Interval.zero with condActive := (s.channel k).sup.anyActive } }) ∧
      (let moved := fun (a b : Attr) (part whole cap raw : Nat) =>
        b.threshold = a.threshold ∧ b.raw = min (2 ^ 32 - 1) (a.raw + raw) ∧
        (whole = 0 → b.value = a.value ∧ b.worst = a.worst) ∧
        (0 < whole → b.value = min cap (part * 100 / whole) ∧ b.worst = min a.worst b.value)
      (∀ k, let i := (s.channel k).iv; let x := s.recs.health.channels.get k
        let y := t.recs.health.channels.get k
        moved x.feed y.feed i.confirmed i.issued 100 i.missed ∧
        moved x.share y.share i.gSum i.mSum (i.gSum * 100 / i.mSum) (i.mSum - i.gSum) ∧
        moved x.samples y.samples i.good i.received (i.good * 100 / i.received) (i.received - i.good)) ∧
      moved s.recs.health.link t.recs.health.link s.recs.accepted (s.recs.accepted + s.recs.rejected) 100
        s.recs.rejected ∧
      moved s.recs.health.announce t.recs.health.announce s.recs.sent s.recs.built 100 s.recs.coalesced) ∧
      (t.recs.warning = true ↔ ∃ a ∈ t.recs.health.attributes, a.value < a.threshold) ∧
      t.recs.accepted = 0 ∧ t.recs.rejected = 0 ∧ t.recs.built = 0 ∧ t.recs.sent = 0 ∧
      t.recs.coalesced = 0

/-! ### Formats (Chapter 12) -/

/-- Frames and their bytes (12.1 to 12.4, R67, R162, R163, R171). The frame commands with contents (all but
CONFLICT_FRAME, OTHER_FRAME and LINK_REJECT) go round: the bytes of a frame that another station sends to this
one, at any priority, are a valid frame and are read as that command with every operand, whatever bytes follow
the frame. The DEMAND that the part drives is read by another station as the DEMAND with its figures, at
priority 2. An ALARM, an ANSWER or a RECORDS that the part drives is a valid frame with its priority, source,
kind, destination, length and CRC, and each of its figures stands at its place in the payload (`Body.LaidOut` in
Machine/Layout.lean), with the codes of 12.1.1, 12.3 and 12.4. -/
def Obligations.FramesGoRound : Prop :=
  (∀ (own : Nat) (priority : Byte) (c : Instr) (kind : Nat) (src dst : Byte) (payload bytes : List Byte),
    sentFrame c = some (kind, src, dst, payload) → sentBytes priority c = some bytes →
    src.toNat ≠ own → (kind = 1 ∨ kind = 2 ∨ dst.toNat = own ∨ dst = 255) →
    ∀ tail : List Byte, validFrame (bytes ++ tail) = true ∧ commandOfFrame own (bytes ++ tail) = c) ∧
  (∀ (own source : Nat) (d : Demand) (overflow : Bool), source < 256 → source ≠ own → d.weight < 256 →
    d.demand.c0 < 2 ^ 32 → d.demand.c1 < 2 ^ 32 → d.demand.c2 < 2 ^ 32 → d.demand.c3 < 2 ^ 32 →
    octetAt (d.wire source overflow) 0 = 2 ∧ commandOfFrame own (d.wire source overflow) =
      .demandFrame (BitVec.ofNat 8 source) 255 (BitVec.ofNat 8 d.weight) (BitVec.ofNat 8 d.state.code)
        (BitVec.ofNat 8 ((if d.healthWarning then 1 else 0) + if overflow then 2 else 0))
        ⟨BitVec.ofNat 32 d.demand.c0, BitVec.ofNat 32 d.demand.c1, BitVec.ofNat 32 d.demand.c2,
          BitVec.ofNat 32 d.demand.c3⟩) ∧
  (∀ (b : Body) (source : Nat) (overflow : Bool), source < 256 → b.Fits →
    b.LaidOut source overflow (b.wire source overflow) ∧
      ∀ tail : List Byte, validFrame (b.wire source overflow ++ tail) = true) ∧
  [ChannelState.off, .dosing, .standby, .held, .faulted, .locked].map ChannelState.code =
    [0, 1, 2, 3, 4, 5] ∧
  [StationState.join, .run, .isolated, .silent].map StationState.code = [1, 2, 3, 4] ∧
  [ReportedState.unknown, .join, .run, .isolated].map ReportedState.code = [0, 1, 2, 3] ∧
  [ResultCode.accepted, .clamped, .refusedState, .refusedFrozen, .refusedValue, .refusedChannel,
    .refusedPresent].map ResultCode.code = [0, 1, 2, 3, 4, 5, 6] ∧
  [Kind.none, .coagulant, .chlorine].map Kind.code = [0, 1, 2] ∧
  [AlarmCause.residualSample, .tLExpiry, .tHExpiry, .tHHExpiry, .runOnEvent, .feederFaultEvent,
    .analyzerStale, .analyzerFresh, .clearFeeder, .release].map AlarmCause.code =
    [1, 2, 3, 4, 5, 6, 7, 8, 9, 10] ∧
  [LockCause.highHigh, .runOn].map LockCause.code = [1, 2]

/-! ### Laws that every step keeps -/

/-- The laws of the state hold at reset. Values that the manual does not give at reset are the model's choice
(assumptions 4 to 7 and 22). -/
def Obligations.ResetIsLawful : Prop :=
  State.reset.OutputsFollow ∧ State.reset.PhaseSound ∧ State.reset.flow.Sound ∧
    State.reset.DosesLawful ∧ State.reset.FeedersLawful ∧ State.reset.QueuesLawful ∧
    State.reset.StatesDerived ∧ (∀ k, (State.reset.channel k).sup.TimersMatch) ∧
    (∀ k, (State.reset.channel k).sup.LockRecorded) ∧ State.reset.TablesLawful ∧
    State.reset.link.Sound ∧ State.reset.RestartAwaited ∧ State.reset.LineUsed ∧ State.reset.recs.Sound

/-- Every step keeps each drive inhibit and the FAULT output at the level of its cause: FAULT is asserted while the
station is in LOAD or HALTED or a configured channel is FAULTED or LOCKED (R128), an inhibit exactly when the
channel is LOCKED or the station is in LOAD or HALTED (R106). In service a channel of kind NONE is OFF where
the states are derived, so only configured channels count. -/
def Obligations.OutputsFollowTheirCauses : Prop :=
  ∀ s t : State, s.OutputsFollow → step s = .next t →
    (∀ k, ((t.channel k).feeder.inh = true ↔
      (t.channel k).state = .locked ∨ t.stn = .load ∨ t.stn = .halted)) ∧
    (t.faultOut = true ↔ t.stn = .load ∨ t.stn = .halted ∨
      ∃ k, (t.channel k).state = .faulted ∨ (t.channel k).state = .locked) ∧
    (∀ im, t.service = some im → t.StatesDerived → (t.faultOut = true ↔
      ∃ k, (im.channel k).kind ≠ .none ∧
        ((t.channel k).state = .faulted ∨ (t.channel k).state = .locked))) ∧
    t.OutputsFollow

/-- Every step keeps the part in phase: a read only in LOAD, a valid image in service and none in HALTED, every
block held outside service (R1, R34, R57, R75, R92, R110, R145, R156, R165, R166, R167). The values of the
blocks before a load, the analyzer messages dropped outside service and the line level kept are the model's choice
(assumptions 5 to 8 and 22). -/
def Obligations.ThePhasesStaySound : Prop :=
  ∀ s t : State, s.PhaseSound → step s = .next t → t.PhaseSound

/-- Every step keeps the dose law and the feeder law on every configured channel: Deff within Cw within the native
ceiling, Gch within M′ within Mmax and 0 outside DOSING, Eest within the native ceiling (R22, R29, R52); credit
within 0 to 4 × m_s and 0 outside DOSING, at most 8 strokes in the order of R99 (R92, R95, R96, R99). -/
def Obligations.DosesAndFeedersStayLawful : Prop :=
  ∀ s t : State, s.PhaseSound → step s = .next t →
    (s.DosesLawful → t.DosesLawful) ∧ (s.FeedersLawful → t.FeedersLawful)

/-- Every step keeps the Flow Unit in its ranges, Q the mean of the ring, and the volume queues in their bounds and
orders: at most 16 entries by due volume, at most 8 by strictly rising marks up to V (R4, R5, R6, R41, R42,
R47). -/
def Obligations.TheWaterScaleStaysLawful : Prop :=
  ∀ s t : State, s.flow.Sound → step s = .next t →
    t.flow.Sound ∧ (s.QueuesLawful → t.QueuesLawful)

/-- Every step keeps each channel's state derived from its conditions and the idle flag (R111), each alert and run-on
timer running exactly in ALERT, and the record of each lockout that is in force (R114, R117, R121, R122,
R123, R130). -/
def Obligations.ProtectionStaysDerived : Prop :=
  ∀ s t : State, s.PhaseSound → step s = .next t →
    (s.StatesDerived → t.StatesDerived) ∧
    ((∀ k, (s.channel k).sup.TimersMatch) → ∀ k, (t.channel k).sup.TimersMatch) ∧
    (s.StatesDerived → (∀ k, (s.channel k).sup.LockRecorded) → ∀ k, (t.channel k).sup.LockRecorded)

/-- Every step keeps the peer table and the capacity table lawful: at most one entry for a number 0 to 31, never the
station's own, ascending, ages up to 5; no source in both slots of a group (R69, R70, R71, R72). -/
def Obligations.TheTablesStayLawful : Prop :=
  ∀ s t : State, s.PhaseSound → s.TablesLawful → step s = .next t → t.TablesLawful

/-- Every step keeps the transmit queue within 8 entries with one entry IN ATTEMPT at most, and the restart-pending
flag set exactly while an awaited ANSWER waits or is on the line (R132, R143, R156, R160); and no waiting frame
is left before a line known to be idle, so that the test of R157 is never owed (R157, R164; the level known is
the model's choice, assumption 15). -/
def Obligations.TheLinkStaysSound : Prop :=
  ∀ s t : State, step s = .next t →
    (s.link.Sound → t.link.Sound) ∧ (s.PhaseSound → s.RestartAwaited → t.RestartAwaited) ∧
      (s.PhaseSound → s.LineUsed → t.LineUsed)

/-- Every step keeps the report queue within 16 records, numbered without a gap up to the sequence counter (R145,
R147, R148). -/
def Obligations.RecordNumbersRunOn : Prop :=
  ∀ s t : State, s.recs.Sound → step s = .next t → t.recs.Sound

/-! ### Samples offered to channels (Chapter 3) -/

/-- ANALYZER_MESSAGE, well formed and of quality GOOD or SUSPECT (R36, R37, R38, R53, R55, R120, R129): a value above
the range is limited to it and SUSPECT; the record takes the sample and is FRESH; each configured channel mapped
to the analyzer counts it, good only when GOOD and of the channel's own measurand, and leaves staleness. Of the
feeder only the inhibit, asserted when LOCKED, may change, and of the interval only the figures of samples. A
sample of the other measurand changes neither dose nor conditions; a turbidity changes of the dose only the
pipeline and Tdp, a residual only the history and Eest; a SUSPECT one makes no lookup and enters no pipeline. Of
the mapped channels in ascending order, each that leaves ANALYZER STALE or an ACTIVE residual condition queues one
ALARM, whose cause is the fresh report where there was one. That a GOOD residual on a chlorine channel counts as
good is the model's choice (assumption 25: the opening of R38 counts only a GOOD turbidity, the text after its
table and the table of R55 a GOOD residual too). That no message is open after the command, whatever was open
before, is the model's reading (assumption 20). A restart that the event brings begins at its end (the model's
choice, assumption 3). -/
def Obligations.ASampleIsOfferedToItsChannels : Prop :=
  ∀ (s : State) (im : Image) (m : SampleMessage) (a : Fin 8) (x : Measurand), s.service = some im →
    m.start = 0xA5 → m.analyzer.toNat = a.val →
    (m.measurand = 1 ∧ x = .residual ∨ m.measurand = 2 ∧ x = .turbidity) →
    (m.quality = 0 ∨ m.quality = 1) → ((messageBytes m).map BitVec.toNat).sum % 256 = 0 →
    s.StatesDerived →
    ∃ t : State, exec (.analyzerMessage m) s = .next t.settleRestart ∧
      t = { s with
        intake := ⟨t.intake.records, [], none⟩, channels := t.channels, faultOut := t.faultOut
        link := t.link, freeCount := t.freeCount } ∧
      let top := if x = .residual then 1000 else 10000
      let good := m.quality = 0 ∧ m.value.toNat ≤ top
      let wasFresh := (s.intake.records.get a).fresh
      t.intake.records.get a = ⟨some ⟨min m.value.toNat top, x, if good then .good else .suspect⟩, true,
        some (im.station.analyzerTimeout * 1000)⟩ ∧
      (∀ b, b ≠ a → t.intake.records.get b = s.intake.records.get b) ∧
      (∀ k, (im.channel k).kind = .none ∨ (im.channel k).analyzer ≠ some a → t.channel k = s.channel k) ∧
      (∀ k, (im.channel k).kind ≠ .none → (im.channel k).analyzer = some a →
        let c := s.channel k
        let d := t.channel k
        let own := x = .residual ∧ (im.channel k).kind = .chlorine ∨
          x = .turbidity ∧ (im.channel k).kind = .coagulant
        d.feeder = { c.feeder with inh := decide (d.state = .locked) } ∧
        d.iv = { c.iv with
          received := min 65535 (c.iv.received + 1)
          good := if own ∧ good then min 65535 (c.iv.good + 1) else c.iv.good
          unusable := d.iv.unusable, minResidual := d.iv.minResidual, maxResidual := d.iv.maxResidual } ∧
        (¬ own ∨ x = .turbidity → d.iv.unusable = c.iv.unusable ∧
          d.iv.minResidual = c.iv.minResidual ∧ d.iv.maxResidual = c.iv.maxResidual) ∧
        (x = .turbidity → d.dose = { c.dose with pipeline := d.dose.pipeline, tdp := d.dose.tdp }) ∧
        (x = .residual → d.dose = { c.dose with history := d.dose.history, eest := d.dose.eest }) ∧
        d.sup.stale = (if wasFresh then c.sup.stale else .clear) ∧
        (¬ own → d.sup = { c.sup with stale := d.sup.stale } ∧ d.state = c.state) ∧
        (¬ own ∨ ¬ good → d.dose = c.dose ∧ d.iv.unusable = c.iv.unusable) ∧
        (own → x = .turbidity → d.sup = { c.sup with stale := d.sup.stale } ∧ d.state = c.state) ∧
        (own → x = .residual → d.sup.lastResidual = some (min m.value.toNat top))) ∧
      ∀ ks : List (Fin 4), ks.Pairwise (fun i j => i < j) →
        (∀ k, k ∈ ks ↔ (im.channel k).kind ≠ .none ∧ (im.channel k).analyzer = some a) →
        let leaves := fun k => let p := (s.channel k).sup; let q := (t.channel k).sup
          p.low = .active ∧ q.low ≠ .active ∨ p.high = .active ∧ q.high ≠ .active ∨
            p.stale = .active ∧ q.stale ≠ .active
        let queued := ks.foldl (fun u k => if leaves k then u.enqueue ((t.channel k).alarmOf k
          (if wasFresh then .residualSample else .analyzerFresh) (s.channel k).state) else u) s
        t.link = queued.link ∧ t.freeCount = queued.freeCount

end Statements
end

