-- ==== Sys2Proof/Laws/Layout.lean ====
section
/-! SUPPORT. Reading what is written: the bytes of lists put together, the opening of a frame, the length of each
payload, each figure at its place in its payload, and the fields of an image block as numbers at an offset. -/

namespace Sys2Proof.Machine

/-! ### Bytes of lists put together -/

theorem octetAt_append_left {a b : List Byte} {o : Nat} (h : o < a.length) :
    octetAt (a ++ b) o = octetAt a o := by
  simp [octetAt, List.getElem?_append, h]

theorem octetAt_append_right (a b : List Byte) (n : Nat) : octetAt (a ++ b) (a.length + n) = octetAt b n := by
  simp [octetAt, List.getElem?_append]

/-- In a list of blocks of n bytes, block i begins at n × i. -/
theorem octetAt_flatMap {α : Type} {f : α → List Byte} {n : Nat} (hn : ∀ a, (f a).length = n) {l : List α}
    {i : Nat} {a : α} (ha : l[i]? = some a) {j : Nat} (hj : j < n) :
    octetAt (l.flatMap f) (n * i + j) = octetAt (f a) j := by
  induction l generalizing i with
  | nil => simp at ha
  | cons x xs ih =>
    rw [List.flatMap_cons]
    cases i with
    | zero =>
      obtain rfl : x = a := by simpa using ha
      simpa using octetAt_append_left (by rwa [hn])
    | succ i =>
      rw [show n * (i + 1) + j = (f x).length + (n * i + j) by rw [hn]; ring, octetAt_append_right]
      exact ih (by simpa using ha)

/-! ### Frames (12.1) -/

/-- A frame is its payload and seven bytes more. -/
theorem frame_length (p s k : Nat) (d : Byte) (payload : List Byte) :
    (withCrc (frameHead p s k d payload)).length = payload.length + 7 := by
  simp [withCrc, frameHead, oneByte, beBytes]

/-- The five bytes that open a frame: priority, source, kind, destination, payload length. -/
theorem frame_opening (p s k : Nat) (d : Byte) (payload : List Byte) :
    let frame := withCrc (frameHead p s k d payload)
    octetAt frame 0 = p % 256 ∧ octetAt frame 1 = s % 256 ∧ octetAt frame 2 = k % 256 ∧
      octetAt frame 3 = d.toNat ∧ octetAt frame 4 = payload.length % 256 := by
  simp [octetAt, withCrc, frameHead, oneByte, beBytes]

/-- The payload of a frame stands from byte 5 on. -/
theorem frame_payload (p s k : Nat) (d : Byte) {payload : List Byte} {i : Nat} (h : i < payload.length) :
    octetAt (withCrc (frameHead p s k d payload)) (5 + i) = octetAt payload i := by
  simp only [octetAt, withCrc, frameHead, oneByte, beBytes, List.getD_eq_getElem?_getD]
  simp [List.getElem?_append, h, Nat.add_comm 5 i]

/-- A frame ends in the CRC of the bytes before it, most significant byte first. -/
theorem frame_crc (p s k : Nat) (d : Byte) (payload : List Byte) :
    let frame := withCrc (frameHead p s k d payload)
    pairAt frame (payload.length + 5) = (crc16 (frame.take (payload.length + 5))).toNat := by
  intro frame
  have hl : (frameHead p s k d payload).length = payload.length + 5 := by simp [frameHead, oneByte, beBytes]
  have ht : frame.take (payload.length + 5) = frameHead p s k d payload := by
    rw [← hl]
    exact List.take_left
  have h := octetAt_append_right (frameHead p s k d payload) (beBytes 2 (crc16 (frameHead p s k d payload)).toNat)
  rw [hl] at h
  have hlt := (crc16 (frameHead p s k d payload)).isLt
  rw [ht, pairAt]
  change 256 * octetAt (_ ++ _) (_ + 0) + octetAt (_ ++ _) _ = _
  rw [h 0, h 1]
  simp [beBytes, octetAt]
  omega

/-! ### The length of each payload (12.3, 12.4) -/

theorem Alarm.payload_length (a : Alarm) (overflow : Bool) : (a.payload overflow).length = 10 := by
  cases a <;> simp [Alarm.payload, stationAlarm, optHalf, oneByte, beBytes]

theorem DoseRecord.payload_length (r : DoseRecord) : r.payload.length = 27 := by
  simp [DoseRecord.payload, optHalf, oneByte, beBytes]

theorem ChannelReport.payload_length (r : ChannelReport) : r.payload.length = 49 := by
  simp [ChannelReport.payload, ChannelReport.standing, ChannelReport.figures, ChannelReport.counts, optHalf,
    oneByte, beBytes]

theorem PeerEntry.payload_length (e : PeerEntry) : e.payload.length = 19 := by
  simp [PeerEntry.payload, oneByte, beBytes, Four.toList]

theorem lockoutPayload_length (r : Option Lockout) : (lockoutPayload r).length = 21 := by
  cases r <;> simp [lockoutPayload, optHalf, oneByte, beBytes]

theorem Attr.payload_length (a : Attr) : a.payload.length = 6 := by simp [Attr.payload, oneByte, beBytes]

/-! ### Each figure at its place in its payload (12.1.1, 12.3, 12.4) -/

theorem conditionWord_eq (low high highHigh runOn feederFault stale : Cond) :
    conditionWord low high highHigh runOn feederFault stale =
        wordOfConditions low high highHigh runOn feederFault stale ∧
      wordOfConditions low high highHigh runOn feederFault stale < 65536 := by
  cases low <;> cases high <;> cases highHigh <;> cases runOn <;> cases feederFault <;> cases stale <;> decide

theorem Alarm.payload_laid (a : Alarm) (overflow : Bool) : a.LaidAt overflow (a.payload overflow) 0 := by
  unfold Alarm.LaidAt
  cases a with
  | channel ch cause residual before after low high highHigh runOn feederFault stale =>
    have hb : before.code % 256 = before.code := by cases before <;> rfl
    have ha : after.code % 256 = after.code := by cases after <;> rfl
    have hc : cause.code % 256 = cause.code := by cases cause <;> rfl
    obtain ⟨hw, hlt⟩ := conditionWord_eq low high highHigh runOn feederFault stale
    simp [pairAt, Alarm.payload, optHalf, oneByte, beBytes, octetAt, noneOr, flagIn, flagBit, hb, ha, hc, hw]
    and_intros <;> first | (revert overflow; decide) | omega
  | _ =>
    cases overflow <;>
      simp [stationFieldsAt, pairAt, Alarm.payload, stationAlarm, optHalf, oneByte, beBytes, octetAt, flagIn, flagBit]

theorem DoseRecord.payload_laid (r : DoseRecord) : r.LaidAt r.payload 0 := by
  have hs : r.state.code % 256 = r.state.code := by cases r.state <;> rfl
  simp [DoseRecord.LaidAt, pairAt, quadAt, DoseRecord.payload, optHalf, oneByte, beBytes, octetAt, noneOr, flagIn,
    recordFlags, flagBit, hs]
  cases r.feedLimitSeen <;> cases r.unusableSeen <;> cases r.condActive <;> simp <;> omega

theorem ChannelReport.payload_laid (r : ChannelReport) : r.LaidAt r.payload 0 := by
  have hs : r.state.code % 256 = r.state.code := by cases r.state <;> rfl
  have hk : r.kind.code % 256 = r.kind.code := by cases r.kind <;> rfl
  obtain ⟨hw, hlt⟩ := conditionWord_eq r.low r.high r.highHigh r.runOn r.feederFault r.stale
  simp [ChannelReport.LaidAt, pairAt, quadAt, ChannelReport.payload, ChannelReport.standing, ChannelReport.figures,
    ChannelReport.counts, optHalf, oneByte, beBytes, octetAt, noneOr, flagIn, channelStatus, flagBit, hs, hk, hw]
  and_intros
  all_goals first
    | omega
    | (cases r.view <;> rfl)
    | (cases r.sourceOverride <;> cases r.profileFromSlot <;> cases r.targetFromSlot <;> cases r.freeze <;>
        cases r.feedLimit <;> decide)
    | (intro h; simp [h])
    | (intro x h; simp [h]; and_intros <;> first | omega | (cases x.quality <;> rfl))

theorem PeerEntry.payload_laid (e : PeerEntry) : e.LaidAt e.payload 0 := by
  refine ⟨?_, ?_, ?_, fun g => ?_⟩
  · simp [PeerEntry.payload, oneByte, beBytes, octetAt]
  · simp [PeerEntry.payload, oneByte, beBytes, octetAt]
  · simp [PeerEntry.payload, oneByte, beBytes, octetAt, peerStatus, flagIn, flagBit, PeerEntry.stale]
  · match g with
    | 0 | 1 | 2 | 3 =>
      simp [pairAt, quadAt, PeerEntry.payload, oneByte, beBytes, octetAt, Four.toList, Four.get]; omega

theorem Lockout.payload_laid (l : Lockout) : l.LaidAt (lockoutPayload (some l)) 0 := by
  have hs : l.cause.code % 256 = l.cause.code := by cases l.cause <;> rfl
  simp [Lockout.LaidAt, pairAt, quadAt, lockoutPayload, optHalf, oneByte, beBytes, octetAt, noneOr, flagIn,
    lockoutFlags, flagBit, hs]
  generalize l.v = v
  and_intros
  all_goals first
    | omega
    | (cases l.additionalHighHigh <;> cases l.additionalRunOn <;> cases l.released <;> decide)

theorem Attr.payload_laid (a : Attr) : a.LaidAt a.payload 0 := by
  simp [Attr.LaidAt, pairAt, Attr.payload, oneByte, beBytes, octetAt]
  omega

/-! ### Fields of an image block (12.6) -/

/-- A field of a block of an image is read from the image itself. -/
theorem field_of_block (bs : List Byte) (a : Nat) {n o k : Nat} (h : o + k ≤ n) :
    field ((bs.drop a).take n) o k = beNat ((bs.drop (a + o)).take k) := by
  unfold field
  rw [List.drop_take, List.take_take, List.drop_drop, show min k (n - o) = k by omega]

theorem beNat_take_one {bs : List Byte} {o : Nat} (h : o < bs.length) :
    beNat ((bs.drop o).take 1) = octetAt bs o := by
  rw [List.drop_eq_getElem_cons h]
  simp [-List.getElem_cons_drop, beNat, octetAt, h]

theorem beNat_take_two {bs : List Byte} {o : Nat} (h : o + 1 < bs.length) :
    beNat ((bs.drop o).take 2) = pairAt bs o := by
  have h0 : o < bs.length := by omega
  rw [List.drop_eq_getElem_cons h0, List.drop_eq_getElem_cons h]
  simp [-List.getElem_cons_drop, beNat, pairAt, octetAt, h0, h]
  omega

theorem beNat_take_four {bs : List Byte} {o : Nat} (h : o + 3 < bs.length) :
    beNat ((bs.drop o).take 4) = quadAt bs o := by
  have h0 : o < bs.length := by omega
  have h1 : o + 1 < bs.length := by omega
  have h2 : o + 2 < bs.length := by omega
  rw [List.drop_eq_getElem_cons h0, List.drop_eq_getElem_cons h1, List.drop_eq_getElem_cons h2,
    List.drop_eq_getElem_cons h]
  simp [-List.getElem_cons_drop, beNat, quadAt, pairAt, octetAt, Nat.add_assoc, h0, h1, h2, h]
  omega

end Sys2Proof.Machine
end

