-- ==== Sys2Proof/Laws/State.lean ====
section
/-! SUPPORT. Small lemmas of the state: reading a collection after a write, and one lemma for each field that an
update leaves alone, so that no proof unfolds a record update. -/

namespace Sys2Proof

/-! ### Four and Eight -/

@[simp] theorem Four.get_set_same {α : Type} (v : Four α) (i : Fin 4) (a : α) : (v.set i a).get i = a := by
  fin_cases i <;> rfl

theorem Four.get_set_other {α : Type} (v : Four α) {i j : Fin 4} (a : α) (h : j ≠ i) :
    (v.set i a).get j = v.get j := by
  fin_cases i <;> fin_cases j <;> first | rfl | exact absurd rfl h

theorem Four.get_set {α : Type} (v : Four α) (i j : Fin 4) (a : α) :
    (v.set i a).get j = if j = i then a else v.get j := by
  by_cases h : j = i
  · subst h; simp
  · simp [h, Four.get_set_other]

@[simp] theorem Four.get_all {α : Type} (a : α) (i : Fin 4) : (Four.all a).get i = a := by
  fin_cases i <;> rfl

@[simp] theorem Four.get_ofFn {α : Type} (f : Fin 4 → α) (i : Fin 4) : (Four.ofFn f).get i = f i := by
  fin_cases i <;> rfl

theorem Four.ext_get {α : Type} {v w : Four α} (h : ∀ i, v.get i = w.get i) : v = w := by
  cases v; cases w
  have h0 := h 0; have h1 := h 1; have h2 := h 2; have h3 := h 3
  simp only [Four.get] at h0 h1 h2 h3
  subst h0 h1 h2 h3; rfl

theorem Four.mem_toList {α : Type} (v : Four α) (x : α) : x ∈ v.toList ↔ ∃ i, v.get i = x := by
  constructor
  · intro h
    simp only [Four.toList, List.mem_cons, List.not_mem_nil, or_false] at h
    rcases h with rfl | rfl | rfl | rfl
    exacts [⟨0, rfl⟩, ⟨1, rfl⟩, ⟨2, rfl⟩, ⟨3, rfl⟩]
  · rintro ⟨i, rfl⟩
    fin_cases i <;> simp [Four.toList, Four.get]

@[simp] theorem Eight.get_set_same {α : Type} (v : Eight α) (i : Fin 8) (a : α) :
    (v.set i a).get i = a := by
  fin_cases i <;> rfl

theorem Eight.get_set_other {α : Type} (v : Eight α) {i j : Fin 8} (a : α) (h : j ≠ i) :
    (v.set i a).get j = v.get j := by
  fin_cases i <;> fin_cases j <;> first | rfl | exact absurd rfl h

theorem Eight.get_set {α : Type} (v : Eight α) (i j : Fin 8) (a : α) :
    (v.set i a).get j = if j = i then a else v.get j := by
  by_cases h : j = i
  · subst h; simp
  · simp [h, Eight.get_set_other]

@[simp] theorem Eight.get_all {α : Type} (a : α) (i : Fin 8) : (Eight.all a).get i = a := by
  fin_cases i <;> rfl

@[simp] theorem Eight.get_ofFn {α : Type} (f : Fin 8 → α) (i : Fin 8) : (Eight.ofFn f).get i = f i := by
  fin_cases i <;> rfl

theorem Eight.mem_toList {α : Type} (v : Eight α) (i : Fin 8) : v.get i ∈ v.toList := by
  fin_cases i <;> simp [Eight.toList, Eight.get]

namespace Machine

/-! ### One channel written -/

@[simp] theorem State.channel_setChannel_same (s : State) (k : Fin 4) (c : Channel) :
    (s.setChannel k c).channel k = c := by
  simp [State.channel, State.setChannel]

theorem State.channel_setChannel (s : State) (k j : Fin 4) (c : Channel) :
    (s.setChannel k c).channel j = if j = k then c else s.channel j := by
  simp [State.channel, State.setChannel, Four.get_set]

@[simp] theorem State.channel_onChannel_same (s : State) (k : Fin 4) (f : Channel → Channel) :
    (s.onChannel k f).channel k = f (s.channel k) := by
  simp [State.onChannel]

theorem State.channel_onChannel (s : State) (k j : Fin 4) (f : Channel → Channel) :
    (s.onChannel k f).channel j = if j = k then f (s.channel j) else s.channel j := by
  by_cases h : j = k
  · subst h; simp
  · simp [State.onChannel, State.channel_setChannel, h]

/-! ### The fields an update leaves alone -/

@[simp] theorem State.setChannel_pending (s : State) (k : Fin 4) (c : Channel) : (s.setChannel k c).pending = s.pending := rfl
@[simp] theorem State.setChannel_resetN (s : State) (k : Fin 4) (c : Channel) : (s.setChannel k c).resetN = s.resetN := rfl
@[simp] theorem State.setChannel_psel (s : State) (k : Fin 4) (c : Channel) : (s.setChannel k c).psel = s.psel := rfl
@[simp] theorem State.setChannel_stn (s : State) (k : Fin 4) (c : Channel) : (s.setChannel k c).stn = s.stn := rfl
@[simp] theorem State.setChannel_config (s : State) (k : Fin 4) (c : Channel) : (s.setChannel k c).config = s.config := rfl
@[simp] theorem State.setChannel_loader (s : State) (k : Fin 4) (c : Channel) : (s.setChannel k c).loader = s.loader := rfl
@[simp] theorem State.setChannel_flow (s : State) (k : Fin 4) (c : Channel) : (s.setChannel k c).flow = s.flow := rfl
@[simp] theorem State.setChannel_selector (s : State) (k : Fin 4) (c : Channel) : (s.setChannel k c).selector = s.selector := rfl
@[simp] theorem State.setChannel_intake (s : State) (k : Fin 4) (c : Channel) : (s.setChannel k c).intake = s.intake := rfl
@[simp] theorem State.setChannel_peer (s : State) (k : Fin 4) (c : Channel) : (s.setChannel k c).peer = s.peer := rfl
@[simp] theorem State.setChannel_share (s : State) (k : Fin 4) (c : Channel) : (s.setChannel k c).share = s.share := rfl
@[simp] theorem State.setChannel_recs (s : State) (k : Fin 4) (c : Channel) : (s.setChannel k c).recs = s.recs := rfl
@[simp] theorem State.setChannel_link (s : State) (k : Fin 4) (c : Channel) : (s.setChannel k c).link = s.link := rfl
@[simp] theorem State.setChannel_restartPending (s : State) (k : Fin 4) (c : Channel) : (s.setChannel k c).restartPending = s.restartPending := rfl
@[simp] theorem State.setChannel_faultOut (s : State) (k : Fin 4) (c : Channel) : (s.setChannel k c).faultOut = s.faultOut := rfl
@[simp] theorem State.setChannel_freeCount (s : State) (k : Fin 4) (c : Channel) : (s.setChannel k c).freeCount = s.freeCount := rfl
@[simp] theorem State.setChannel_service (s : State) (k : Fin 4) (c : Channel) : (s.setChannel k c).service = s.service := rfl

@[simp] theorem State.onChannel_pending (s : State) (k : Fin 4) (f : Channel → Channel) : (s.onChannel k f).pending = s.pending := rfl
@[simp] theorem State.onChannel_resetN (s : State) (k : Fin 4) (f : Channel → Channel) : (s.onChannel k f).resetN = s.resetN := rfl
@[simp] theorem State.onChannel_psel (s : State) (k : Fin 4) (f : Channel → Channel) : (s.onChannel k f).psel = s.psel := rfl
@[simp] theorem State.onChannel_stn (s : State) (k : Fin 4) (f : Channel → Channel) : (s.onChannel k f).stn = s.stn := rfl
@[simp] theorem State.onChannel_config (s : State) (k : Fin 4) (f : Channel → Channel) : (s.onChannel k f).config = s.config := rfl
@[simp] theorem State.onChannel_loader (s : State) (k : Fin 4) (f : Channel → Channel) : (s.onChannel k f).loader = s.loader := rfl
@[simp] theorem State.onChannel_flow (s : State) (k : Fin 4) (f : Channel → Channel) : (s.onChannel k f).flow = s.flow := rfl
@[simp] theorem State.onChannel_selector (s : State) (k : Fin 4) (f : Channel → Channel) : (s.onChannel k f).selector = s.selector := rfl
@[simp] theorem State.onChannel_intake (s : State) (k : Fin 4) (f : Channel → Channel) : (s.onChannel k f).intake = s.intake := rfl
@[simp] theorem State.onChannel_peer (s : State) (k : Fin 4) (f : Channel → Channel) : (s.onChannel k f).peer = s.peer := rfl
@[simp] theorem State.onChannel_share (s : State) (k : Fin 4) (f : Channel → Channel) : (s.onChannel k f).share = s.share := rfl
@[simp] theorem State.onChannel_recs (s : State) (k : Fin 4) (f : Channel → Channel) : (s.onChannel k f).recs = s.recs := rfl
@[simp] theorem State.onChannel_link (s : State) (k : Fin 4) (f : Channel → Channel) : (s.onChannel k f).link = s.link := rfl
@[simp] theorem State.onChannel_restartPending (s : State) (k : Fin 4) (f : Channel → Channel) : (s.onChannel k f).restartPending = s.restartPending := rfl
@[simp] theorem State.onChannel_faultOut (s : State) (k : Fin 4) (f : Channel → Channel) : (s.onChannel k f).faultOut = s.faultOut := rfl
@[simp] theorem State.onChannel_freeCount (s : State) (k : Fin 4) (f : Channel → Channel) : (s.onChannel k f).freeCount = s.freeCount := rfl
@[simp] theorem State.onChannel_service (s : State) (k : Fin 4) (f : Channel → Channel) : (s.onChannel k f).service = s.service := rfl

@[simp] theorem State.attemptTest_pending (s : State) : (s.attemptTest).pending = s.pending := rfl
@[simp] theorem State.attemptTest_resetN (s : State) : (s.attemptTest).resetN = s.resetN := rfl
@[simp] theorem State.attemptTest_psel (s : State) : (s.attemptTest).psel = s.psel := rfl
@[simp] theorem State.attemptTest_stn (s : State) : (s.attemptTest).stn = s.stn := rfl
@[simp] theorem State.attemptTest_config (s : State) : (s.attemptTest).config = s.config := rfl
@[simp] theorem State.attemptTest_loader (s : State) : (s.attemptTest).loader = s.loader := rfl
@[simp] theorem State.attemptTest_flow (s : State) : (s.attemptTest).flow = s.flow := rfl
@[simp] theorem State.attemptTest_selector (s : State) : (s.attemptTest).selector = s.selector := rfl
@[simp] theorem State.attemptTest_intake (s : State) : (s.attemptTest).intake = s.intake := rfl
@[simp] theorem State.attemptTest_channels (s : State) : (s.attemptTest).channels = s.channels := rfl
@[simp] theorem State.attemptTest_peer (s : State) : (s.attemptTest).peer = s.peer := rfl
@[simp] theorem State.attemptTest_share (s : State) : (s.attemptTest).share = s.share := rfl
@[simp] theorem State.attemptTest_recs (s : State) : (s.attemptTest).recs = s.recs := rfl
@[simp] theorem State.attemptTest_restartPending (s : State) : (s.attemptTest).restartPending = s.restartPending := rfl
@[simp] theorem State.attemptTest_faultOut (s : State) : (s.attemptTest).faultOut = s.faultOut := rfl
@[simp] theorem State.attemptTest_channel (s : State) (j : Fin 4) : (s.attemptTest).channel j = s.channel j := rfl
@[simp] theorem State.attemptTest_service (s : State) : (s.attemptTest).service = s.service := rfl
@[simp] theorem State.attemptTest_link (s : State) : (s.attemptTest).link = s.testedLink := rfl

@[simp] theorem Link.lineDriven_queue (l : Link) : (l.lineDriven).queue = l.queue := rfl
@[simp] theorem Link.lineDriven_slot (l : Link) : (l.lineDriven).slot = l.slot := rfl
@[simp] theorem Link.lineDriven_tx (l : Link) : (l.lineDriven).tx = l.tx := rfl
@[simp] theorem Link.lineDriven_overflowDemand (l : Link) : (l.lineDriven).overflowDemand = l.overflowDemand := rfl
@[simp] theorem Link.lineDriven_overflowAlarm (l : Link) : (l.lineDriven).overflowAlarm = l.overflowAlarm := rfl
@[simp] theorem Link.lineDriven_awaitedLeft (l : Link) : (l.lineDriven).awaitedLeft = l.awaitedLeft := rfl
@[simp] theorem Link.lineDriven_line (l : Link) : (l.lineDriven).line = .driven := rfl

@[simp] theorem Link.stopDriving_queue (l : Link) (x : Line) : (l.stopDriving x).queue = l.queue := rfl
@[simp] theorem Link.stopDriving_slot (l : Link) (x : Line) : (l.stopDriving x).slot = l.slot := rfl
@[simp] theorem Link.stopDriving_tx (l : Link) (x : Line) : (l.stopDriving x).tx = .idle := rfl
@[simp] theorem Link.stopDriving_overflowDemand (l : Link) (x : Line) : (l.stopDriving x).overflowDemand = l.overflowDemand := rfl
@[simp] theorem Link.stopDriving_overflowAlarm (l : Link) (x : Line) : (l.stopDriving x).overflowAlarm = l.overflowAlarm := rfl
@[simp] theorem Link.stopDriving_awaitedLeft (l : Link) (x : Line) : (l.stopDriving x).awaitedLeft = l.awaitedLeft := rfl
@[simp] theorem Link.stopDriving_line (l : Link) (x : Line) : (l.stopDriving x).line = x := rfl

@[simp] theorem Link.afterReset_queue (l : Link) : (l.afterReset).queue = Link.held.queue := rfl
@[simp] theorem Link.afterReset_slot (l : Link) : (l.afterReset).slot = Link.held.slot := rfl
@[simp] theorem Link.afterReset_tx (l : Link) : (l.afterReset).tx = Link.held.tx := rfl
@[simp] theorem Link.afterReset_overflowDemand (l : Link) : (l.afterReset).overflowDemand = Link.held.overflowDemand := rfl
@[simp] theorem Link.afterReset_overflowAlarm (l : Link) : (l.afterReset).overflowAlarm = Link.held.overflowAlarm := rfl
@[simp] theorem Link.afterReset_awaitedLeft (l : Link) : (l.afterReset).awaitedLeft = Link.held.awaitedLeft := rfl
@[simp] theorem Link.afterReset_line (l : Link) : (l.afterReset).line = l.line := rfl

@[simp] theorem State.enqueue_pending (s : State) (b : Body) (a : Bool) : (s.enqueue b a).pending = s.pending := rfl
@[simp] theorem State.enqueue_resetN (s : State) (b : Body) (a : Bool) : (s.enqueue b a).resetN = s.resetN := rfl
@[simp] theorem State.enqueue_psel (s : State) (b : Body) (a : Bool) : (s.enqueue b a).psel = s.psel := rfl
@[simp] theorem State.enqueue_stn (s : State) (b : Body) (a : Bool) : (s.enqueue b a).stn = s.stn := rfl
@[simp] theorem State.enqueue_config (s : State) (b : Body) (a : Bool) : (s.enqueue b a).config = s.config := rfl
@[simp] theorem State.enqueue_loader (s : State) (b : Body) (a : Bool) : (s.enqueue b a).loader = s.loader := rfl
@[simp] theorem State.enqueue_flow (s : State) (b : Body) (a : Bool) : (s.enqueue b a).flow = s.flow := rfl
@[simp] theorem State.enqueue_selector (s : State) (b : Body) (a : Bool) : (s.enqueue b a).selector = s.selector := rfl
@[simp] theorem State.enqueue_intake (s : State) (b : Body) (a : Bool) : (s.enqueue b a).intake = s.intake := rfl
@[simp] theorem State.enqueue_channels (s : State) (b : Body) (a : Bool) : (s.enqueue b a).channels = s.channels := rfl
@[simp] theorem State.enqueue_peer (s : State) (b : Body) (a : Bool) : (s.enqueue b a).peer = s.peer := rfl
@[simp] theorem State.enqueue_share (s : State) (b : Body) (a : Bool) : (s.enqueue b a).share = s.share := rfl
@[simp] theorem State.enqueue_recs (s : State) (b : Body) (a : Bool) : (s.enqueue b a).recs = s.recs := rfl
@[simp] theorem State.enqueue_restartPending (s : State) (b : Body) (a : Bool) : (s.enqueue b a).restartPending = s.restartPending := rfl
@[simp] theorem State.enqueue_faultOut (s : State) (b : Body) (a : Bool) : (s.enqueue b a).faultOut = s.faultOut := rfl
@[simp] theorem State.enqueue_channel (s : State) (b : Body) (a : Bool) (j : Fin 4) : (s.enqueue b a).channel j = s.channel j := rfl
@[simp] theorem State.enqueue_service (s : State) (b : Body) (a : Bool) : (s.enqueue b a).service = s.service := rfl

@[simp] theorem State.choiceRead_pending (s : State) : (s.choiceRead).pending = s.pending := rfl
@[simp] theorem State.choiceRead_resetN (s : State) : (s.choiceRead).resetN = s.resetN := rfl
@[simp] theorem State.choiceRead_psel (s : State) : (s.choiceRead).psel = s.psel := rfl
@[simp] theorem State.choiceRead_stn (s : State) : (s.choiceRead).stn = s.stn := rfl
@[simp] theorem State.choiceRead_config (s : State) : (s.choiceRead).config = s.config := rfl
@[simp] theorem State.choiceRead_loader (s : State) : (s.choiceRead).loader = s.loader := rfl
@[simp] theorem State.choiceRead_flow (s : State) : (s.choiceRead).flow = s.flow := rfl
@[simp] theorem State.choiceRead_selector (s : State) : (s.choiceRead).selector = s.selector := rfl
@[simp] theorem State.choiceRead_intake (s : State) : (s.choiceRead).intake = s.intake := rfl
@[simp] theorem State.choiceRead_channels (s : State) : (s.choiceRead).channels = s.channels := rfl
@[simp] theorem State.choiceRead_peer (s : State) : (s.choiceRead).peer = s.peer := rfl
@[simp] theorem State.choiceRead_share (s : State) : (s.choiceRead).share = s.share := rfl
@[simp] theorem State.choiceRead_recs (s : State) : (s.choiceRead).recs = s.recs := rfl
@[simp] theorem State.choiceRead_link (s : State) : (s.choiceRead).link = s.link := rfl
@[simp] theorem State.choiceRead_restartPending (s : State) : (s.choiceRead).restartPending = s.restartPending := rfl
@[simp] theorem State.choiceRead_faultOut (s : State) : (s.choiceRead).faultOut = s.faultOut := rfl
@[simp] theorem State.choiceRead_channel (s : State) (j : Fin 4) : (s.choiceRead).channel j = s.channel j := rfl
@[simp] theorem State.choiceRead_service (s : State) : (s.choiceRead).service = s.service := rfl

@[simp] theorem State.formFault_pending (s : State) : (s.formFault).pending = s.pending := rfl
@[simp] theorem State.formFault_resetN (s : State) : (s.formFault).resetN = s.resetN := rfl
@[simp] theorem State.formFault_psel (s : State) : (s.formFault).psel = s.psel := rfl
@[simp] theorem State.formFault_stn (s : State) : (s.formFault).stn = s.stn := rfl
@[simp] theorem State.formFault_config (s : State) : (s.formFault).config = s.config := rfl
@[simp] theorem State.formFault_loader (s : State) : (s.formFault).loader = s.loader := rfl
@[simp] theorem State.formFault_flow (s : State) : (s.formFault).flow = s.flow := rfl
@[simp] theorem State.formFault_selector (s : State) : (s.formFault).selector = s.selector := rfl
@[simp] theorem State.formFault_intake (s : State) : (s.formFault).intake = s.intake := rfl
@[simp] theorem State.formFault_channels (s : State) : (s.formFault).channels = s.channels := rfl
@[simp] theorem State.formFault_peer (s : State) : (s.formFault).peer = s.peer := rfl
@[simp] theorem State.formFault_share (s : State) : (s.formFault).share = s.share := rfl
@[simp] theorem State.formFault_recs (s : State) : (s.formFault).recs = s.recs := rfl
@[simp] theorem State.formFault_link (s : State) : (s.formFault).link = s.link := rfl
@[simp] theorem State.formFault_restartPending (s : State) : (s.formFault).restartPending = s.restartPending := rfl
@[simp] theorem State.formFault_freeCount (s : State) : (s.formFault).freeCount = s.freeCount := rfl
@[simp] theorem State.formFault_channel (s : State) (j : Fin 4) : (s.formFault).channel j = s.channel j := rfl
@[simp] theorem State.formFault_service (s : State) : (s.formFault).service = s.service := rfl

@[simp] theorem State.countAccepted_pending (s : State) : (s.countAccepted).pending = s.pending := rfl
@[simp] theorem State.countAccepted_resetN (s : State) : (s.countAccepted).resetN = s.resetN := rfl
@[simp] theorem State.countAccepted_psel (s : State) : (s.countAccepted).psel = s.psel := rfl
@[simp] theorem State.countAccepted_stn (s : State) : (s.countAccepted).stn = s.stn := rfl
@[simp] theorem State.countAccepted_config (s : State) : (s.countAccepted).config = s.config := rfl
@[simp] theorem State.countAccepted_loader (s : State) : (s.countAccepted).loader = s.loader := rfl
@[simp] theorem State.countAccepted_flow (s : State) : (s.countAccepted).flow = s.flow := rfl
@[simp] theorem State.countAccepted_selector (s : State) : (s.countAccepted).selector = s.selector := rfl
@[simp] theorem State.countAccepted_intake (s : State) : (s.countAccepted).intake = s.intake := rfl
@[simp] theorem State.countAccepted_channels (s : State) : (s.countAccepted).channels = s.channels := rfl
@[simp] theorem State.countAccepted_peer (s : State) : (s.countAccepted).peer = s.peer := rfl
@[simp] theorem State.countAccepted_share (s : State) : (s.countAccepted).share = s.share := rfl
@[simp] theorem State.countAccepted_link (s : State) : (s.countAccepted).link = s.link.lineDriven := rfl
@[simp] theorem State.countAccepted_restartPending (s : State) : (s.countAccepted).restartPending = s.restartPending := rfl
@[simp] theorem State.countAccepted_faultOut (s : State) : (s.countAccepted).faultOut = s.faultOut := rfl
@[simp] theorem State.countAccepted_freeCount (s : State) : (s.countAccepted).freeCount = s.freeCount := rfl
@[simp] theorem State.countAccepted_channel (s : State) (j : Fin 4) : (s.countAccepted).channel j = s.channel j := rfl
@[simp] theorem State.countAccepted_service (s : State) : (s.countAccepted).service = s.service := rfl

@[simp] theorem State.countRejectedFrame_pending (s : State) : (s.countRejectedFrame).pending = s.pending := rfl
@[simp] theorem State.countRejectedFrame_resetN (s : State) : (s.countRejectedFrame).resetN = s.resetN := rfl
@[simp] theorem State.countRejectedFrame_psel (s : State) : (s.countRejectedFrame).psel = s.psel := rfl
@[simp] theorem State.countRejectedFrame_stn (s : State) : (s.countRejectedFrame).stn = s.stn := rfl
@[simp] theorem State.countRejectedFrame_config (s : State) : (s.countRejectedFrame).config = s.config := rfl
@[simp] theorem State.countRejectedFrame_loader (s : State) : (s.countRejectedFrame).loader = s.loader := rfl
@[simp] theorem State.countRejectedFrame_flow (s : State) : (s.countRejectedFrame).flow = s.flow := rfl
@[simp] theorem State.countRejectedFrame_selector (s : State) : (s.countRejectedFrame).selector = s.selector := rfl
@[simp] theorem State.countRejectedFrame_intake (s : State) : (s.countRejectedFrame).intake = s.intake := rfl
@[simp] theorem State.countRejectedFrame_channels (s : State) : (s.countRejectedFrame).channels = s.channels := rfl
@[simp] theorem State.countRejectedFrame_peer (s : State) : (s.countRejectedFrame).peer = s.peer := rfl
@[simp] theorem State.countRejectedFrame_share (s : State) : (s.countRejectedFrame).share = s.share := rfl
@[simp] theorem State.countRejectedFrame_link (s : State) : (s.countRejectedFrame).link = s.link := rfl
@[simp] theorem State.countRejectedFrame_restartPending (s : State) : (s.countRejectedFrame).restartPending = s.restartPending := rfl
@[simp] theorem State.countRejectedFrame_faultOut (s : State) : (s.countRejectedFrame).faultOut = s.faultOut := rfl
@[simp] theorem State.countRejectedFrame_freeCount (s : State) : (s.countRejectedFrame).freeCount = s.freeCount := rfl
@[simp] theorem State.countRejectedFrame_channel (s : State) (j : Fin 4) : (s.countRejectedFrame).channel j = s.channel j := rfl
@[simp] theorem State.countRejectedFrame_service (s : State) : (s.countRejectedFrame).service = s.service := rfl

@[simp] theorem State.enterJoin_pending (s : State) : (s.enterJoin).pending = s.pending := rfl
@[simp] theorem State.enterJoin_resetN (s : State) : (s.enterJoin).resetN = s.resetN := rfl
@[simp] theorem State.enterJoin_psel (s : State) : (s.enterJoin).psel = s.psel := rfl
@[simp] theorem State.enterJoin_config (s : State) : (s.enterJoin).config = s.config := rfl
@[simp] theorem State.enterJoin_loader (s : State) : (s.enterJoin).loader = s.loader := rfl
@[simp] theorem State.enterJoin_flow (s : State) : (s.enterJoin).flow = s.flow := rfl
@[simp] theorem State.enterJoin_selector (s : State) : (s.enterJoin).selector = s.selector := rfl
@[simp] theorem State.enterJoin_intake (s : State) : (s.enterJoin).intake = s.intake := rfl
@[simp] theorem State.enterJoin_channels (s : State) : (s.enterJoin).channels = s.channels := rfl
@[simp] theorem State.enterJoin_share (s : State) : (s.enterJoin).share = s.share := rfl
@[simp] theorem State.enterJoin_recs (s : State) : (s.enterJoin).recs = s.recs := rfl
@[simp] theorem State.enterJoin_link (s : State) : (s.enterJoin).link = s.link := rfl
@[simp] theorem State.enterJoin_restartPending (s : State) : (s.enterJoin).restartPending = s.restartPending := rfl
@[simp] theorem State.enterJoin_faultOut (s : State) : (s.enterJoin).faultOut = s.faultOut := rfl
@[simp] theorem State.enterJoin_freeCount (s : State) : (s.enterJoin).freeCount = s.freeCount := rfl
@[simp] theorem State.enterJoin_channel (s : State) (j : Fin 4) : (s.enterJoin).channel j = s.channel j := rfl

@[simp] theorem State.announce_pending (s : State) (im : Image) : (s.announce im).pending = s.pending := rfl
@[simp] theorem State.announce_resetN (s : State) (im : Image) : (s.announce im).resetN = s.resetN := rfl
@[simp] theorem State.announce_psel (s : State) (im : Image) : (s.announce im).psel = s.psel := rfl
@[simp] theorem State.announce_stn (s : State) (im : Image) : (s.announce im).stn = s.stn := rfl
@[simp] theorem State.announce_config (s : State) (im : Image) : (s.announce im).config = s.config := rfl
@[simp] theorem State.announce_loader (s : State) (im : Image) : (s.announce im).loader = s.loader := rfl
@[simp] theorem State.announce_flow (s : State) (im : Image) : (s.announce im).flow = s.flow := rfl
@[simp] theorem State.announce_selector (s : State) (im : Image) : (s.announce im).selector = s.selector := rfl
@[simp] theorem State.announce_intake (s : State) (im : Image) : (s.announce im).intake = s.intake := rfl
@[simp] theorem State.announce_channels (s : State) (im : Image) : (s.announce im).channels = s.channels := rfl
@[simp] theorem State.announce_peer (s : State) (im : Image) : (s.announce im).peer = s.peer := rfl
@[simp] theorem State.announce_share (s : State) (im : Image) : (s.announce im).share = s.share := rfl
@[simp] theorem State.announce_restartPending (s : State) (im : Image) : (s.announce im).restartPending = s.restartPending := rfl
@[simp] theorem State.announce_faultOut (s : State) (im : Image) : (s.announce im).faultOut = s.faultOut := rfl
@[simp] theorem State.announce_channel (s : State) (im : Image) (j : Fin 4) : (s.announce im).channel j = s.channel j := rfl
@[simp] theorem State.announce_service (s : State) (im : Image) : (s.announce im).service = s.service := rfl

@[simp] theorem State.answer_pending (s : State) (src tag : Byte) (kind : Nat) (r : ResultCode) (ch : Byte) (x : AnswerContent) (a : Bool) : (s.answer src tag kind r ch x a).pending = s.pending := rfl
@[simp] theorem State.answer_resetN (s : State) (src tag : Byte) (kind : Nat) (r : ResultCode) (ch : Byte) (x : AnswerContent) (a : Bool) : (s.answer src tag kind r ch x a).resetN = s.resetN := rfl
@[simp] theorem State.answer_psel (s : State) (src tag : Byte) (kind : Nat) (r : ResultCode) (ch : Byte) (x : AnswerContent) (a : Bool) : (s.answer src tag kind r ch x a).psel = s.psel := rfl
@[simp] theorem State.answer_stn (s : State) (src tag : Byte) (kind : Nat) (r : ResultCode) (ch : Byte) (x : AnswerContent) (a : Bool) : (s.answer src tag kind r ch x a).stn = s.stn := rfl
@[simp] theorem State.answer_config (s : State) (src tag : Byte) (kind : Nat) (r : ResultCode) (ch : Byte) (x : AnswerContent) (a : Bool) : (s.answer src tag kind r ch x a).config = s.config := rfl
@[simp] theorem State.answer_loader (s : State) (src tag : Byte) (kind : Nat) (r : ResultCode) (ch : Byte) (x : AnswerContent) (a : Bool) : (s.answer src tag kind r ch x a).loader = s.loader := rfl
@[simp] theorem State.answer_flow (s : State) (src tag : Byte) (kind : Nat) (r : ResultCode) (ch : Byte) (x : AnswerContent) (a : Bool) : (s.answer src tag kind r ch x a).flow = s.flow := rfl
@[simp] theorem State.answer_selector (s : State) (src tag : Byte) (kind : Nat) (r : ResultCode) (ch : Byte) (x : AnswerContent) (a : Bool) : (s.answer src tag kind r ch x a).selector = s.selector := rfl
@[simp] theorem State.answer_intake (s : State) (src tag : Byte) (kind : Nat) (r : ResultCode) (ch : Byte) (x : AnswerContent) (a : Bool) : (s.answer src tag kind r ch x a).intake = s.intake := rfl
@[simp] theorem State.answer_channels (s : State) (src tag : Byte) (kind : Nat) (r : ResultCode) (ch : Byte) (x : AnswerContent) (a : Bool) : (s.answer src tag kind r ch x a).channels = s.channels := rfl
@[simp] theorem State.answer_peer (s : State) (src tag : Byte) (kind : Nat) (r : ResultCode) (ch : Byte) (x : AnswerContent) (a : Bool) : (s.answer src tag kind r ch x a).peer = s.peer := rfl
@[simp] theorem State.answer_share (s : State) (src tag : Byte) (kind : Nat) (r : ResultCode) (ch : Byte) (x : AnswerContent) (a : Bool) : (s.answer src tag kind r ch x a).share = s.share := rfl
@[simp] theorem State.answer_recs (s : State) (src tag : Byte) (kind : Nat) (r : ResultCode) (ch : Byte) (x : AnswerContent) (a : Bool) : (s.answer src tag kind r ch x a).recs = s.recs := rfl
@[simp] theorem State.answer_restartPending (s : State) (src tag : Byte) (kind : Nat) (r : ResultCode) (ch : Byte) (x : AnswerContent) (a : Bool) : (s.answer src tag kind r ch x a).restartPending = s.restartPending := rfl
@[simp] theorem State.answer_faultOut (s : State) (src tag : Byte) (kind : Nat) (r : ResultCode) (ch : Byte) (x : AnswerContent) (a : Bool) : (s.answer src tag kind r ch x a).faultOut = s.faultOut := rfl
@[simp] theorem State.answer_channel (s : State) (src tag : Byte) (kind : Nat) (r : ResultCode) (ch : Byte) (x : AnswerContent) (a : Bool) (j : Fin 4) : (s.answer src tag kind r ch x a).channel j = s.channel j := rfl
@[simp] theorem State.answer_service (s : State) (src tag : Byte) (kind : Nat) (r : ResultCode) (ch : Byte) (x : AnswerContent) (a : Bool) : (s.answer src tag kind r ch x a).service = s.service := rfl

@[simp] theorem State.recordGrant_pending (s : State) (im : Image) (g : Fin 4) : (s.recordGrant im g).pending = s.pending := rfl
@[simp] theorem State.recordGrant_resetN (s : State) (im : Image) (g : Fin 4) : (s.recordGrant im g).resetN = s.resetN := rfl
@[simp] theorem State.recordGrant_psel (s : State) (im : Image) (g : Fin 4) : (s.recordGrant im g).psel = s.psel := rfl
@[simp] theorem State.recordGrant_stn (s : State) (im : Image) (g : Fin 4) : (s.recordGrant im g).stn = s.stn := rfl
@[simp] theorem State.recordGrant_config (s : State) (im : Image) (g : Fin 4) : (s.recordGrant im g).config = s.config := rfl
@[simp] theorem State.recordGrant_loader (s : State) (im : Image) (g : Fin 4) : (s.recordGrant im g).loader = s.loader := rfl
@[simp] theorem State.recordGrant_flow (s : State) (im : Image) (g : Fin 4) : (s.recordGrant im g).flow = s.flow := rfl
@[simp] theorem State.recordGrant_selector (s : State) (im : Image) (g : Fin 4) : (s.recordGrant im g).selector = s.selector := rfl
@[simp] theorem State.recordGrant_intake (s : State) (im : Image) (g : Fin 4) : (s.recordGrant im g).intake = s.intake := rfl
@[simp] theorem State.recordGrant_channels (s : State) (im : Image) (g : Fin 4) : (s.recordGrant im g).channels = s.channels := rfl
@[simp] theorem State.recordGrant_peer (s : State) (im : Image) (g : Fin 4) : (s.recordGrant im g).peer = s.peer := rfl
@[simp] theorem State.recordGrant_recs (s : State) (im : Image) (g : Fin 4) : (s.recordGrant im g).recs = s.recs := rfl
@[simp] theorem State.recordGrant_link (s : State) (im : Image) (g : Fin 4) : (s.recordGrant im g).link = s.link := rfl
@[simp] theorem State.recordGrant_restartPending (s : State) (im : Image) (g : Fin 4) : (s.recordGrant im g).restartPending = s.restartPending := rfl
@[simp] theorem State.recordGrant_faultOut (s : State) (im : Image) (g : Fin 4) : (s.recordGrant im g).faultOut = s.faultOut := rfl
@[simp] theorem State.recordGrant_freeCount (s : State) (im : Image) (g : Fin 4) : (s.recordGrant im g).freeCount = s.freeCount := rfl
@[simp] theorem State.recordGrant_channel (s : State) (im : Image) (g : Fin 4) (j : Fin 4) : (s.recordGrant im g).channel j = s.channel j := rfl
@[simp] theorem State.recordGrant_service (s : State) (im : Image) (g : Fin 4) : (s.recordGrant im g).service = s.service := rfl

end Machine

end Sys2Proof
end

