-- ==== Sys2Proof/Laws/Ops.lean ====
section
/-! SUPPORT. What each shared operation can do, said once: service, work on several channels, the transmit
queue and its drop order, the end of an event, packing, the Channel Supervisor. -/

namespace Sys2Proof.Machine

/-! ### Service and channel numbers -/

theorem State.service_eq_some {s : State} {im : Image} :
    s.service = some im ↔ s.stn.inService = true ∧ s.config = some im := by
  unfold State.service
  split <;> simp_all

theorem Image.mem_configured {im : Image} {k : Fin 4} :
    k ∈ im.configured ↔ (im.channel k).configured = true := by
  have hk : k ∈ channelNumbers := by fin_cases k <;> decide
  simp [Image.configured, hk]

theorem Image.configured_nodup (im : Image) : im.configured.Nodup :=
  List.Nodup.filter _ (by decide)

theorem Image.mem_mapped {im : Image} {a : Fin 8} {k : Fin 4} :
    k ∈ im.mapped a ↔ (im.channel k).configured = true ∧ (im.channel k).analyzer = some a := by
  simp [Image.mapped, Image.mem_configured]

theorem Image.mapped_nodup (im : Image) (a : Fin 8) : (im.mapped a).Nodup :=
  List.Nodup.filter _ im.configured_nodup

/-! ### Work on several channels -/

/-- What each piece of work keeps, the work on all the channels keeps. -/
theorem State.forChannels_keeps {P : State → Prop} {f : Fin 4 → State → State}
    (h : ∀ k s, P s → P (f k s)) (ks : List (Fin 4)) {s : State} (hs : P s) :
    P (s.forChannels ks f) := by
  unfold State.forChannels
  induction ks generalizing s with
  | nil => exact hs
  | cons k ks ih => exact ih (h k s hs)

/-- The same, for work that keeps something only on the channels it is done for. -/
theorem State.forChannels_keeps_on {P : State → Prop} {f : Fin 4 → State → State} {ks : List (Fin 4)}
    (h : ∀ k ∈ ks, ∀ s, P s → P (f k s)) {s : State} (hs : P s) : P (s.forChannels ks f) := by
  unfold State.forChannels
  induction ks generalizing s with
  | nil => exact hs
  | cons k ks ih =>
    exact ih (fun j hj => h j (List.mem_cons_of_mem _ hj)) (h k List.mem_cons_self s hs)

/-- A part of the state that no piece of the work touches is the same afterwards. -/
theorem State.forChannels_same {β : Type} (g : State → β) {f : Fin 4 → State → State}
    (h : ∀ k s, g (f k s) = g s) (ks : List (Fin 4)) (s : State) : g (s.forChannels ks f) = g s := by
  have := State.forChannels_keeps (P := fun t => g t = g s) (f := f)
    (fun k t ht => (h k t).trans ht) ks (s := s) rfl
  exact this

/-- Work on one channel each: a channel of the list has its work done once, any other is left alone. -/
theorem State.forChannels_onChannel (g : Fin 4 → Channel → Channel) {ks : List (Fin 4)} (hn : ks.Nodup)
    (s : State) (j : Fin 4) :
    (s.forChannels ks fun k s => s.onChannel k (g k)).channel j =
      if j ∈ ks then g j (s.channel j) else s.channel j := by
  unfold State.forChannels
  induction ks generalizing s with
  | nil => simp
  | cons k ks ih =>
    have hk := (List.nodup_cons.mp hn)
    rw [List.foldl_cons, ih hk.2, State.channel_onChannel]
    by_cases hj : j = k
    · subst hj; simp [hk.1]
    · simp [hj]

/-! ### The transmit queue (R160) -/

/-- The four things that can become of a queued frame. -/
theorem Link.enqueue_cases (l : Link) (e : Entry) :
    (l.queue.length < queueCapacity ∧ l.enqueue e = { l with queue := l.queue ++ [e] }) ∨
    (queueCapacity ≤ l.queue.length ∧ l.queue.any Entry.waitingRecords = true ∧
      l.enqueue e = { l with queue := dropLastThat Entry.waitingRecords l.queue ++ [e] }) ∨
    (queueCapacity ≤ l.queue.length ∧ l.queue.any Entry.waitingRecords = false ∧
      e.body.isAlarm = true ∧ ∃ victim, l.queue.find? Entry.waitingAnswer = some victim ∧
      l.enqueue e = { l with
        queue := l.queue.eraseP Entry.waitingAnswer ++ [e]
        awaitedLeft := l.awaitedLeft || victim.awaited }) ∨
    (queueCapacity ≤ l.queue.length ∧ l.queue.any Entry.waitingRecords = false ∧
      e.body.isAlarm = true ∧ l.queue.find? Entry.waitingAnswer = none ∧
      l.enqueue e = { l with overflowDemand := true, overflowAlarm := true }) ∨
    (queueCapacity ≤ l.queue.length ∧ l.queue.any Entry.waitingRecords = false ∧
      e.body.isAlarm = false ∧
      l.enqueue e = { l with awaitedLeft := l.awaitedLeft || e.awaited }) := by
  unfold Link.enqueue
  split
  · exact .inl ⟨‹_›, rfl⟩
  · have hlen : queueCapacity ≤ l.queue.length := by omega
    split
    · exact .inr (.inl ⟨hlen, ‹_›, rfl⟩)
    · have hany : l.queue.any Entry.waitingRecords = false := Bool.eq_false_iff.mpr ‹_›
      split
      · split
        · exact .inr (.inr (.inl ⟨hlen, hany, ‹_›, _, ‹_›, rfl⟩))
        · exact .inr (.inr (.inr (.inl ⟨hlen, hany, ‹_›, ‹_›, rfl⟩)))
      · exact .inr (.inr (.inr (.inr ⟨hlen, hany, Bool.eq_false_iff.mpr ‹_›, rfl⟩)))

theorem dropLastThat_length {p : Entry → Bool} {q : List Entry} (h : q.any p = true) :
    (dropLastThat p q).length = q.length - 1 := by
  unfold dropLastThat
  have h' : ∃ a ∈ q.reverse, p a = true := by
    obtain ⟨a, ha, hp⟩ := List.any_eq_true.mp h
    exact ⟨a, List.mem_reverse.mpr ha, hp⟩
  obtain ⟨a, ha, hp⟩ := h'
  simp [List.length_eraseP_of_mem ha hp]

/-- Every entry after a frame is queued stood in the queue before, or is the frame. -/
theorem Link.mem_enqueue {l : Link} {e x : Entry} (h : x ∈ (l.enqueue e).queue) :
    x ∈ l.queue ∨ x = e := by
  rcases Link.enqueue_cases l e with ⟨-, hq⟩ | ⟨-, -, hq⟩ | ⟨-, -, -, v, -, hq⟩ | ⟨-, -, -, -, hq⟩ |
    ⟨-, -, -, hq⟩ <;> rw [hq] at h
  · simpa using h
  · simp only [List.mem_append, List.mem_singleton] at h
    rcases h with h | h
    · exact .inl (List.mem_reverse.mp (List.eraseP_subset (List.mem_reverse.mp h)))
    · exact .inr h
  · simp only [List.mem_append, List.mem_singleton] at h
    rcases h with h | h
    · exact .inl (List.eraseP_subset h)
    · exact .inr h
  · exact .inl h
  · exact .inl h

@[simp] theorem Link.enqueue_slot (l : Link) (e : Entry) : (l.enqueue e).slot = l.slot := by
  rcases Link.enqueue_cases l e with ⟨-, hq⟩ | ⟨-, -, hq⟩ | ⟨-, -, -, v, -, hq⟩ | ⟨-, -, -, -, hq⟩ |
    ⟨-, -, -, hq⟩ <;> rw [hq]

@[simp] theorem Link.enqueue_tx (l : Link) (e : Entry) : (l.enqueue e).tx = l.tx := by
  rcases Link.enqueue_cases l e with ⟨-, hq⟩ | ⟨-, -, hq⟩ | ⟨-, -, -, v, -, hq⟩ | ⟨-, -, -, -, hq⟩ |
    ⟨-, -, -, hq⟩ <;> rw [hq]

@[simp] theorem Link.enqueue_line (l : Link) (e : Entry) : (l.enqueue e).line = l.line := by
  rcases Link.enqueue_cases l e with ⟨-, hq⟩ | ⟨-, -, hq⟩ | ⟨-, -, -, v, -, hq⟩ | ⟨-, -, -, -, hq⟩ |
    ⟨-, -, -, hq⟩ <;> rw [hq]

/-! ### The test of R157 -/

/-- The test of R157 leaves the state alone, begins the attempt of the chosen frame, or finds that another
station has begun to drive the line. -/
theorem State.attemptTest_cases (s : State) :
    (s.mayAttempt = false ∧ s.attemptTest = s) ∨
    (s.mayAttempt = true ∧ s.choice % 2 = 0 ∧ s.attemptTest = { s with
      link := s.link.beginAttempt s.stationNumber, freeCount := s.freeCount + 1 }) ∨
    (s.mayAttempt = true ∧ s.choice % 2 ≠ 0 ∧ s.attemptTest = { s with
      link := s.link.lineDriven, freeCount := s.freeCount + 1 }) := by
  unfold State.attemptTest State.testedLink
  cases h : s.mayAttempt
  · exact .inl ⟨rfl, by simp⟩
  · by_cases hc : s.choice % 2 = 0
    · exact .inr (.inl ⟨rfl, hc, by simp [hc]⟩)
    · exact .inr (.inr ⟨rfl, hc, by simp [hc]⟩)

/-- Where the line is not known to be idle, as within the arrival of a frame, the test begins nothing. -/
theorem State.attemptTest_of_driven {s : State} (h : s.link.line ≠ .idle) : s.attemptTest = s := by
  rcases s.attemptTest_cases with ⟨-, e⟩ | ⟨hm, -⟩ | ⟨hm, -⟩
  · exact e
  all_goals simp [State.mayAttempt, h] at hm

theorem State.enqueue_of_driven {s : State} (b : Body) (a : Bool) (h : s.link.line ≠ .idle) :
    s.enqueue b a = { s with link := s.link.enqueue (Entry.fresh b a) } :=
  State.attemptTest_of_driven (by simpa using h)

theorem State.mayAttempt_iff {s : State} :
    s.mayAttempt = true ↔ s.service.isSome = true ∧ s.stn.transmits = true ∧ s.link.tx = .idle ∧
      s.link.line = .idle ∧ s.link.anyWaiting = true := by
  simp [State.mayAttempt, and_assoc]

/-- What the choice of a frame does to the link: nothing without a waiting frame; otherwise the announce slot's
DEMAND or an entry of the queue goes on the line, which is then not idle. -/
theorem Link.beginAttempt_cases (l : Link) (own : Nat) :
    (l.slot = none ∧ bestWaiting l.queue = none ∧ l.beginAttempt own = l) ∨
    (∃ a, l.slot = some a ∧ (∀ p, bestWaiting l.queue = some p → 2 ≤ p) ∧
      l.beginAttempt own = l.attemptDemand own a) ∨
    (∃ p, bestWaiting l.queue = some p ∧ (l.slot = none ∨ p < 2) ∧
      l.beginAttempt own = l.attemptEntry own p) := by
  unfold Link.beginAttempt
  cases hs : l.slot <;> cases hb : bestWaiting l.queue <;> dsimp only
  · exact .inl ⟨rfl, rfl, rfl⟩
  · exact .inr (.inr ⟨_, rfl, .inl rfl, rfl⟩)
  · exact .inr (.inl ⟨_, rfl, by simp, rfl⟩)
  · split
    · exact .inr (.inr ⟨_, rfl, .inr ‹_›, rfl⟩)
    · exact .inr (.inl ⟨_, rfl, by intro p hp; cases hp; omega, rfl⟩)

/-- The receiver takes frames exactly while the transmitter is idle and the line is not one of its own attempt. -/
theorem Link.listens_iff {l : Link} : l.listens = true ↔ l.tx = .idle ∧ l.line ≠ .own := by
  simp [Link.listens]

/-! ### The end of an event -/

/-- An event ends as it is, with the mark of a left ANSWER taken away, or with the start of a restart. -/
theorem State.settleRestart_cases (s : State) :
    (s.link.awaitedLeft = false ∧ s.settleRestart = s) ∨
    (s.link.awaitedLeft = true ∧ s.restartPending = true ∧ s.settleRestart = s.beginRestart) ∨
    (s.link.awaitedLeft = true ∧ s.restartPending = false ∧
      s.settleRestart = { s with link := { s.link with awaitedLeft := false } }) := by
  unfold State.settleRestart
  cases s.link.awaitedLeft <;> cases s.restartPending <;> simp

theorem State.settleRestart_of_none_left {s : State} (h : s.link.awaitedLeft = false) :
    s.settleRestart = s := by
  simp [State.settleRestart, h]

/-! ### Packing -/

/-- What packing one frame keeps, the packing test and a flush keep. -/
theorem State.packWhile_keeps {P : State → Prop} {n need : Nat}
    (h : ∀ s, 0 < s.recs.queue.length → s.link.queue.length < queueCapacity → P s → P (s.packOne n))
    (fuel : Nat) {s : State} (hs : P s) : P (State.packWhile n need fuel s) := by
  induction fuel generalizing s with
  | zero => exact hs
  | succ fuel ih =>
    unfold State.packWhile
    split
    · exact ih (h s (by omega) (by omega) hs)
    · exact hs

theorem State.packingTest_keeps {P : State → Prop} {im : Image}
    (h : ∀ s, 0 < s.recs.queue.length → s.link.queue.length < queueCapacity → P s →
      P (s.packOne im.station.packingCount)) {s : State} (hs : P s) : P (s.packingTest im) := by
  unfold State.packingTest
  split
  · exact State.packWhile_keeps h _ hs
  · exact hs

/-! ### The Channel Supervisor -/

@[simp] theorem supervise_state (cc : ChannelConfig) (v : Nat) (idle : Bool) (b a : Channel) :
    (supervise cc v idle b a).state = a.sup.derive idle := rfl

@[simp] theorem supervise_inh (cc : ChannelConfig) (v : Nat) (idle : Bool) (b a : Channel) :
    (supervise cc v idle b a).feeder.inh = (a.sup.derive idle == .locked) := rfl

@[simp] theorem supervise_strokes (cc : ChannelConfig) (v : Nat) (idle : Bool) (b a : Channel) :
    (supervise cc v idle b a).feeder.strokes = a.feeder.strokes := rfl

@[simp] theorem supervise_conditions (cc : ChannelConfig) (v : Nat) (idle : Bool) (b a : Channel) :
    (supervise cc v idle b a).sup = { a.sup with
      lockout := lockoutAfter cc v b a (a.sup.derive idle) } := rfl

@[simp] theorem supervise_iv (cc : ChannelConfig) (v : Nat) (idle : Bool) (b a : Channel) :
    (supervise cc v idle b a).iv = { a.iv with
      condActive := a.iv.condActive || anyBecameActive b.sup a.sup } := rfl

/-- The condition-active flag is raised exactly by an event in which one of the six conditions becomes ACTIVE
(R146). -/
theorem anyBecameActive_iff {b a : Supervisor} : anyBecameActive b a = true ↔
    (b.low ≠ .active ∧ a.low = .active) ∨ (b.high ≠ .active ∧ a.high = .active) ∨
      (b.highHigh ≠ .active ∧ a.highHigh = .active) ∨ (b.runOn ≠ .active ∧ a.runOn = .active) ∨
      (b.feederFault ≠ .active ∧ a.feederFault = .active) ∨ (b.stale ≠ .active ∧ a.stale = .active) := by
  simp [anyBecameActive, becameActive, or_assoc]

/-- No condition becomes ACTIVE where each that is ACTIVE afterwards was so before. -/
theorem anyBecameActive_eq_false {b a : Supervisor} (hl : a.low = .active → b.low = .active)
    (hh : a.high = .active → b.high = .active) (hhh : a.highHigh = .active → b.highHigh = .active)
    (hr : a.runOn = .active → b.runOn = .active) (hf : a.feederFault = .active → b.feederFault = .active)
    (hs : a.stale = .active → b.stale = .active) : anyBecameActive b a = false := by
  rw [Bool.eq_false_iff, ne_eq, anyBecameActive_iff]
  tauto

/-- An event in which no condition becomes ACTIVE, on a channel whose state was the derived one: the state is
derived and the inhibit follows it; no channel leaves DOSING or enters LOCKED by it. -/
theorem supervise_of_nothing_raised {cc : ChannelConfig} {v : Nat} {idle : Bool} {b a : Channel}
    (hb : b.state = b.sup.derive idle) (h : anyBecameActive b.sup a.sup = false) :
    supervise cc v idle b a = { a with
      state := a.sup.derive idle
      feeder := { a.feeder with inh := a.sup.derive idle == .locked } } := by
  have hn := h
  rw [Bool.eq_false_iff, ne_eq, anyBecameActive_iff] at hn
  push Not at hn
  obtain ⟨-, hh, hhh, hr, hf, -⟩ := hn
  have hleft : (b.state == .dosing && a.sup.derive idle != .dosing) = false := by
    rw [hb]; unfold Supervisor.derive; split_ifs <;> simp_all
  have hlock : lockoutAfter cc v b a (a.sup.derive idle) = a.sup.lockout := by
    have e1 : becameActive b.sup.highHigh a.sup.highHigh = false := by
      simp only [becameActive]; cases hx : a.sup.highHigh <;> simp_all
    have e2 : becameActive b.sup.runOn a.sup.runOn = false := by
      simp only [becameActive]; cases hx : a.sup.runOn <;> simp_all
    by_cases hst : a.sup.derive idle = .locked
    · have hbl : b.state = .locked := by
        rw [hb]; unfold Supervisor.derive at hst ⊢; split_ifs at hst ⊢ <;> simp_all
      simp [lockoutAfter, hst, hbl, e1, e2]
    · simp [lockoutAfter, hst]
  simp [supervise, hleft, hlock, h]

/-- No condition becomes ACTIVE by a sample judged against it (R114). -/
theorem judgeCondition_active {time : Nat} {beyond back : Bool} {c : Cond} {t : Timer}
    (h : (judgeCondition time beyond back c t).1 = .active) : c = .active := by
  cases c <;> cases beyond <;> cases back <;> simp [judgeCondition] at h ⊢ <;> split_ifs at h

/-- A residual makes no condition ACTIVE (R114). -/
theorem Supervisor.judgeResidual_raises_nothing (cc : ChannelConfig) (p : Supervisor) (r : Nat) :
    anyBecameActive p (p.judgeResidual cc r) = false :=
  anyBecameActive_eq_false judgeCondition_active judgeCondition_active judgeCondition_active id id id

/-- A lookup changes only the history and Eest, and the unusable count (R51, R52, R55). -/
theorem Channel.lookup_changes (cc : ChannelConfig) (v r : Nat) (c : Channel) :
    c.lookup cc v r = { c with
      dose := { c.dose with history := (c.lookup cc v r).dose.history, eest := (c.lookup cc v r).dose.eest }
      iv := { c.iv with unusable := (c.lookup cc v r).iv.unusable } } := by
  unfold Channel.lookup
  dsimp only
  split <;> rfl

/-- A turbidity that enters changes only the pipeline and Tdp (R42, R43). -/
theorem DoseEngine.appendTurbidity_changes (d : DoseEngine) (v lead turbidity : Nat) :
    d.appendTurbidity v lead turbidity = { d with
      pipeline := (d.appendTurbidity v lead turbidity).pipeline
      tdp := (d.appendTurbidity v lead turbidity).tdp } := by
  unfold DoseEngine.appendTurbidity DoseEngine.makeRoom
  dsimp only
  split
  · rfl
  · split <;> rfl

/-- What a sample offered to a channel, after the fresh report, does to it: no condition becomes ACTIVE; a turbidity
changes of the dose only the pipeline and Tdp, a residual only the history and Eest; the state and the feeder stay;
of the interval only the figures of samples change (R37, R38, R55, R146). -/
theorem Channel.offer_changes (cc : ChannelConfig) (v : Nat) (x : Reading) (fresh : Bool) (c : Channel) :
    let d := (c.hearFresh fresh).offer cc v x
    d.state = c.state ∧ d.feeder = c.feeder ∧ anyBecameActive c.sup d.sup = false ∧
      d.iv = { c.iv with
        received := satAdd top16 c.iv.received 1
        good := if cc.kind.measures x.measurand && x.quality == .good then satAdd top16 c.iv.good 1 else c.iv.good
        unusable := d.iv.unusable, minResidual := d.iv.minResidual, maxResidual := d.iv.maxResidual } ∧
      (x.measurand = .turbidity → d.dose = { c.dose with pipeline := d.dose.pipeline, tdp := d.dose.tdp } ∧
        d.iv.unusable = c.iv.unusable ∧ d.iv.minResidual = c.iv.minResidual ∧
        d.iv.maxResidual = c.iv.maxResidual) ∧
      (x.measurand = .residual → d.dose = { c.dose with history := d.dose.history, eest := d.dose.eest }) := by
  have hs : anyBecameActive c.sup (c.hearFresh fresh).sup = false := by
    refine anyBecameActive_eq_false ?_ ?_ ?_ ?_ ?_ ?_ <;> cases fresh <;> simp [Channel.hearFresh]
  have hf : c.hearFresh fresh = { c with sup := (c.hearFresh fresh).sup } := by cases fresh <;> rfl
  have hj : anyBecameActive c.sup ((c.hearFresh fresh).sup.judgeResidual cc x.value) = false := by
    rw [Bool.eq_false_iff, ne_eq, anyBecameActive_iff] at hs
    push Not at hs
    exact anyBecameActive_eq_false (fun h => by_contra fun g => hs.1 g (judgeCondition_active h))
      (fun h => by_contra fun g => hs.2.1 g (judgeCondition_active h))
      (fun h => by_contra fun g => hs.2.2.1 g (judgeCondition_active h))
      (fun h => by_contra fun g => hs.2.2.2.1 g h) (fun h => by_contra fun g => hs.2.2.2.2.1 g h)
      (fun h => by_contra fun g => hs.2.2.2.2.2 g h)
  rw [hf]
  revert hs hj
  generalize (c.hearFresh fresh).sup = p
  intro hs hj
  obtain ⟨value, measurand, quality⟩ := x
  dsimp only
  unfold Channel.offer
  dsimp only
  cases cc.kind.measures measurand
  · exact ⟨rfl, rfl, hs, rfl, fun _ => ⟨rfl, rfl, rfl, rfl⟩, fun _ => rfl⟩
  cases measurand
  · simp only [if_true, Channel.takeResidual]
    cases quality
    · simp only [true_and]
      split
      · rw [Channel.lookup_changes]
        exact ⟨rfl, rfl, hj, rfl, nofun, fun _ => rfl⟩
      · exact ⟨rfl, rfl, hj, rfl, nofun, fun _ => rfl⟩
    · exact ⟨rfl, rfl, hj, rfl, nofun, fun _ => rfl⟩
  · simp only [if_true, Channel.takeTurbidity]
    cases quality
    · rw [if_pos rfl]
      exact ⟨rfl, rfl, hs, rfl, fun _ => ⟨DoseEngine.appendTurbidity_changes .., rfl, rfl, rfl⟩, nofun⟩
    · exact ⟨rfl, rfl, hs, rfl, fun _ => ⟨rfl, rfl, rfl, rfl⟩, nofun⟩

/-- One event on a channel: the channel is the supervised one, FAULT is formed anew, and then one ALARM or
none is queued. -/
theorem State.settleChannel_eq (s : State) (im : Image) (k : Fin 4) (after : Channel)
    (cause : Option AlarmCause) :
    let u := (s.setChannel k (supervise (im.channel k) s.flow.v s.flow.idle (s.channel k) after)).formFault
    s.settleChannel im k after cause = u ∨ ∃ b, s.settleChannel im k after cause = u.enqueue b := by
  unfold State.settleChannel
  cases cause with
  | none => exact .inl rfl
  | some a =>
    dsimp only
    split
    · exact .inr ⟨_, rfl⟩
    · exact .inl rfl

end Sys2Proof.Machine
end

