-- ==== Sys2Proof/WellFormed.lean ====
section
/-! DEFINITION. Which terms of `Instr` stand for a command the part can meet: the checks that the
types of the operands do not already make. -/

namespace Sys2Proof

/-- A completed transaction reads exactly one part of the image (R165): the header (3 bytes), the
station block (18), a group block (8), a channel block (121) or the stored CRC (2), see 12.6. -/
def ReadResult.wf : ReadResult → Bool
  | .completed data => [3, 18, 8, 121, 2].contains data.length
  | .failed => true

/-- A frame of kind DEMAND (1) or SUPPLY (2) from another station is always dispatched (R163), so it
is never the command OTHER_FRAME. -/
def otherKindWf (kind : Byte) : Bool := !(kind == 1 || kind == 2)

/-- A frame ends with byte 6 + n for a payload length n of at most 88 (R162), so it has at most 95
bytes. -/
def frameBytesWf (bytes : List Byte) : Bool := decide (bytes.length ≤ 95)

/-- The well-formed commands. -/
def Instr.wf : Instr → Bool
  | .pinReset => true
  | .resetNRise => true
  | .readTransaction r => r.wf
  | .transactionTimeout => true
  | .retryWait => true
  | .restartBegins => true
  | .flowPulse => true
  | .flowSample => true
  | .idleTimerExpiry => true
  | .lineChange _ _ _ => true
  | .settleTimerExpiry => true
  | .doseUpdate _ => true
  | .analyzerMessage _ => true
  | .messageGap => true
  | .freshnessTimerExpiry _ => true
  | .alertTimerExpiry _ _ => true
  | .runOnTimerExpiry _ => true
  | .quietTimerExpiry _ => true
  | .strokeIntervalExpiry _ => true
  | .confirm _ => true
  | .deadlineExpiry _ => true
  | .graceDeadlineExpiry _ => true
  | .announceExpiry => true
  | .demandFrame _ _ _ _ _ _ => true
  | .supplyFrame _ _ _ _ => true
  | .conflictFrame => true
  | .otherFrame _ kind _ => otherKindWf kind
  | .linkReject bytes => frameBytesWf bytes
  | .target _ _ _ _ _ _ => true
  | .profile _ _ _ _ _ _ => true
  | .ceiling _ _ _ _ _ => true
  | .freeze _ _ _ _ => true
  | .commit _ _ => true
  | .clearFeeder _ _ _ _ => true
  | .release _ _ _ _ => true
  | .restart _ _ _ => true
  | .flush _ _ => true
  | .query _ _ _ _ _ _ => true
  | .transmitAttempt => true
  | .frameLost => true
  | .frameCollided => true
  | .frameCompleted => true
  | .reportTimerExpiry => true
  | .packingTest => true
  | .receivedByteOnAnz _ => true

end Sys2Proof
end

