-- ==== Sys2Proof/Tests/Slice0.lean ====
section
/-! SUPPORT. Tests: an ill-formed term refused by each check of WellFormed.lean, the figures of the manual's worked
sequences, one or two steps of each command, and for each statement of the certificates a state and operands
that meet its hypotheses (the theorems named `witness_…`). -/

-- One theorem after the other: many kernel evaluations at once would each take a thread.
set_option Elab.async false

namespace Sys2Proof.Tests

open Sys2Proof Sys2Proof.Machine

/-! ### Ill-formed terms -/

theorem test_wf_refuses_data_of_no_part :
    (Instr.readTransaction (.completed [1, 2, 3, 4])).wf = false := by decide

theorem test_wf_refuses_demand_as_other_frame : (Instr.otherFrame 9 1 255).wf = false := by decide

theorem test_wf_refuses_long_frame : (Instr.linkReject (List.replicate 96 0)).wf = false := by decide

theorem test_wf_accepts_header : (Instr.readTransaction (.completed [1, 2, 27])).wf = true := by decide

/-! ### The station of the worked sequences

Station 5, weight 4, P = 2 s, silence limit 3, Lp = 100 L, idle time 10 s, settle time 20 s, reserve share 250,
report interval 600 s, packing count 3 (1.9.1, 2.12, 4.7.1, 5.8, 9.5). Channel 0 is coagulant on group 2 (2.12.1,
3.5.1), channel 1 chlorine on group 0 (2.12.3, 3.5.3, 7.10.1), channel 2 of kind NONE, channel 3 chlorine without
an analyzer, with a tHH of 0 s and a run-on time of 0 s. -/

/-- Profiles of channel 0 (2.12.1, 2.12.4). -/
def coagulantProfiles : Eight Profile :=
  ((Eight.all ⟨1000, 50, 100, 0, 0⟩).set 3 ⟨2500, 100, 150, 0, 0⟩).set 5 ⟨3500, 80, 200, 0, 0⟩

/-- Profiles of the chlorine channels (2.12.3). -/
def chlorineProfiles : Eight Profile := (Eight.all ⟨0, 0, 0, 100, 50⟩).set 3 ⟨0, 0, 0, 150, 120⟩

/-- Channel 0. -/
def channel0 : ChannelConfig where
  kind := .coagulant
  group := 2
  analyzer := some 4
  vs := 40000
  sp := 650
  tmin := 333
  confirmWindow := 500
  missLimit := 3
  nativeCeiling := 8000
  volume := 1800000
  historyStep := 0
  lowLimit := 0
  lowRecovery := 0
  highLimit := 0
  highRecovery := 0
  hhLimit := 0
  tL := 0
  tH := 0
  tHH := 0
  runOnTime := 5
  feedThreshold := 0
  shareThreshold := 0
  samplesThreshold := 0
  profiles := coagulantProfiles

/-- Channel 1. -/
def channel1 : ChannelConfig where
  kind := .chlorine
  group := 0
  analyzer := some 2
  vs := 5000
  sp := 120
  tmin := 100
  confirmWindow := 200
  missLimit := 4
  nativeCeiling := 500
  volume := 2700000
  historyStep := 5
  lowLimit := 20
  lowRecovery := 40
  highLimit := 300
  highRecovery := 250
  hhLimit := 450
  tL := 600
  tH := 120
  tHH := 30
  runOnTime := 5
  feedThreshold := 99
  shareThreshold := 0
  samplesThreshold := 0
  profiles := chlorineProfiles

/-- Channel 3. -/
def channel3 : ChannelConfig := { channel1 with analyzer := none, group := 2, tHH := 0, runOnTime := 0 }

/-- The configured values of the station. -/
def demoImage : Image where
  station := ⟨5, 4, 250, 2, 3, 100, 10, 20, 600, 3, 300, 90, 90⟩
  groups := ⟨⟨10000, 9000⟩, ⟨1000, 1000⟩, ⟨300000, 200000⟩, ⟨0, 0⟩⟩
  channels := ⟨channel0, channel1, ChannelConfig.unconfigured, channel3⟩

/-- The same station with channel 1 of kind NONE (11.6). -/
def changedImage : Image :=
  { demoImage with channels := demoImage.channels.set 1 ChannelConfig.unconfigured }

/-! ### The image of the station -/

/-- The bytes of a profile. -/
def profileBytes (p : Profile) : List Byte :=
  beBytes 2 p.b ++ beBytes 2 p.k ++ beBytes 2 p.s ++ beBytes 2 p.rt ++ beBytes 2 p.e0

/-- The bytes of a channel block (12.6). -/
def channelBytes (c : ChannelConfig) : List Byte :=
  oneByte c.kind.code ++ oneByte c.group.val ++ oneByte ((c.analyzer.map Fin.val).getD 255)
    ++ beBytes 4 c.vs ++ beBytes 2 c.sp ++ beBytes 2 c.tmin ++ beBytes 2 c.confirmWindow
    ++ oneByte c.missLimit ++ beBytes 2 c.nativeCeiling ++ beBytes 4 c.volume ++ oneByte c.historyStep
    ++ [c.lowLimit, c.lowRecovery, c.highLimit, c.highRecovery, c.hhLimit, c.tL, c.tH, c.tHH].flatMap (beBytes 2)
    ++ [c.runOnTime, c.feedThreshold, c.shareThreshold, c.samplesThreshold].flatMap oneByte
    ++ c.profiles.toList.flatMap profileBytes

/-- The bytes of an image before its CRC (12.6). -/
def imageBytes (im : Image) : List Byte :=
  [0x01, 0x02, 0x1B] ++ [im.station.number, im.station.weight].flatMap oneByte
    ++ beBytes 2 im.station.reserveShare
    ++ [im.station.announcePeriod, im.station.silenceLimit].flatMap oneByte
    ++ [im.station.litresPerPulse, im.station.idleTime].flatMap (beBytes 2)
    ++ oneByte im.station.settleTime ++ beBytes 2 im.station.reportInterval
    ++ oneByte im.station.packingCount ++ beBytes 2 im.station.analyzerTimeout
    ++ [im.station.linkThreshold, im.station.announceThreshold].flatMap oneByte
    ++ im.groups.toList.flatMap (fun g => beBytes 4 g.maxCapacity ++ beBytes 4 g.fallback)
    ++ im.channels.toList.flatMap channelBytes

/-- The part at the start of service, the lines at index 3. -/
def joined : State :=
  ({ State.reset with resetN := true, psel := (true, true, false) } : State).enterService demoImage

/-- The part in RUN, the line not known to be idle. -/
def demo : State := { joined with stn := .run, link := { joined.link with line := .driven } }

/-- A state with every timer of service that runs in each second or in each period at its expiry. -/
def due (s : State) : State :=
  { s with
    flow := { s.flow with sampleTimer := some 0, idleTimer := some 0 }
    intake :=
      { s.intake with
        records := Eight.ofFn fun a => { s.intake.records.get a with timer := some 0 }, gapTimer := some 0 }
    channels := Four.ofFn fun k => { s.channel k with dose := { (s.channel k).dose with timer := some 0 } }
    peer := { s.peer with timer := some 0 }
    recs := { s.recs with timer := some 0 } }

/-- The flow of 2.12: Q = 1,250 L/s at a volume V. -/
def flowAt (v : Nat) : FlowUnit := { demo.flow with q := 1250, ring := ⟨1250, 1250, 1250, 1250⟩, v := v }

theorem demo_service : demo.service = some demoImage := rfl

theorem demo_derived : demo.StatesDerived := by
  intro im h
  obtain rfl := Option.some.inj h
  decide

theorem test_crc : crc16 ([49, 50, 51, 52, 53, 54, 55, 56, 57] : List Byte) = 0x29B1#16 := by decide +kernel

theorem test_image_is_valid : demoImage.valid = true ∧ changedImage.valid = true := by decide +kernel


/-- Fifty bytes of the image. -/
def fifty (j : Nat) : List Byte := ((imageBytes demoImage).drop (50 * j)).take 50

theorem crc_of_fifty_0 : (fifty 0).foldl crcByte 65535#16 = 60977#16 := by decide +kernel

theorem crc_of_fifty_1 : (fifty 1).foldl crcByte 60977#16 = 56709#16 := by decide +kernel

theorem crc_of_fifty_2 : (fifty 2).foldl crcByte 56709#16 = 5095#16 := by decide +kernel

theorem crc_of_fifty_3 : (fifty 3).foldl crcByte 5095#16 = 3470#16 := by decide +kernel

theorem crc_of_fifty_4 : (fifty 4).foldl crcByte 3470#16 = 50055#16 := by decide +kernel

theorem crc_of_fifty_5 : (fifty 5).foldl crcByte 50055#16 = 119#16 := by decide +kernel

theorem crc_of_fifty_6 : (fifty 6).foldl crcByte 119#16 = 10159#16 := by decide +kernel

theorem crc_of_fifty_7 : (fifty 7).foldl crcByte 10159#16 = 28535#16 := by decide +kernel

theorem crc_of_fifty_8 : (fifty 8).foldl crcByte 28535#16 = 65250#16 := by decide +kernel

theorem crc_of_fifty_9 : (fifty 9).foldl crcByte 65250#16 = 1958#16 := by decide +kernel

theorem crc_of_fifty_10 : (fifty 10).foldl crcByte 1958#16 = 37924#16 := by decide +kernel

theorem image_in_fifties : imageBytes demoImage = fifty 0 ++ fifty 1 ++ fifty 2 ++ fifty 3 ++ fifty 4 ++ fifty 5
    ++ fifty 6 ++ fifty 7 ++ fifty 8 ++ fifty 9 ++ fifty 10 := by decide +kernel

theorem crc_of_image : crc16 (imageBytes demoImage) = 37924#16 := by
  rw [image_in_fifties, crc16]
  simp only [List.foldl_append, crc_of_fifty_0, crc_of_fifty_1, crc_of_fifty_2, crc_of_fifty_3, crc_of_fifty_4,
    crc_of_fifty_5, crc_of_fifty_6, crc_of_fifty_7, crc_of_fifty_8, crc_of_fifty_9, crc_of_fifty_10]

theorem length_of_image : (imageBytes demoImage).length = 537 := by decide +kernel

theorem crc_of_bytes (a b : Byte) (h : beNat [a, b] = 37924) :
    crcMatches (imageBytes demoImage ++ [a, b]) = true := by
  simp only [crcMatches, imageLength]
  rw [List.drop_left' (by rw [length_of_image]), List.take_left' (by rw [length_of_image]), crc_of_image, h]
  rfl

theorem test_image_is_read : checkImage (imageBytes demoImage ++ [0x94, 0x24]) = some demoImage := by
  unfold checkImage
  rw [if_pos ⟨by simp [length_of_image, imageLength], crc_of_bytes _ _ (by decide)⟩]
  decide +kernel

theorem test_image_with_another_crc_is_refused :
    checkImage (imageBytes demoImage ++ [0x94, 0x25]) = none := by
  unfold checkImage
  rw [if_neg]
  rintro ⟨-, h⟩
  revert h
  simp only [crcMatches, imageLength]
  rw [List.drop_left' (by rw [length_of_image]), List.take_left' (by rw [length_of_image]), crc_of_image]
  decide

/-! ### One step of each command -/

/-- What a command makes of a state, seen through some of its fields. -/
def seen {α : Type} (c : Instr) (s : State) (f : State → α) : Option α :=
  match exec c s with
  | .next t => some (f t)
  | .fault _ => none
  | .refused _ => none

/-- The state after a command. -/
def after (c : Instr) (s : State) : State :=
  match exec c s with
  | .next t => t
  | .fault _ => s
  | .refused _ => s

/-- The part while it reads a part of the image, some attempts having failed. -/
def reading (p : Part) (failures : Nat) (bytes : List Byte) : State :=
  { State.reset with resetN := true, loader := ⟨.reading, p, failures, some 25, bytes⟩ }

/-- The read of the station's part at the end of its 25 ms. -/
def overdue (failures : Nat) : State :=
  { reading .station failures [] with loader := ⟨.reading, .station, failures, some 0, []⟩ }

/-- R165: the header is read first, within 25 ms. -/
theorem test_reset_n_rise : seen .resetNRise State.reset (fun t => (t.resetN, t.loader.part, t.loader.timer)) =
    some (true, .header, some 25) := by decide

theorem test_pin_reset : seen .pinReset demo (fun t => (t.stn, t.faultOut, t.config)) = some (.load, true, none) := by
  decide

/-- R165: format 1 and length 539 = 0x021B. -/
theorem test_header_is_read : seen (.readTransaction (.completed [0x01, 0x02, 0x1B])) (reading .header 0 [])
    (fun t => (t.loader.part, t.loader.bytes)) = some (.station, [0x01, 0x02, 0x1B]) := by decide

theorem test_unknown_format_halts : seen (.readTransaction (.completed [0x02, 0x02, 0x1B])) (reading .header 0 [])
    (fun t => (t.stn, t.faultOut)) = some (.halted, true) := by decide

/-- R165: the fourth attempt of a transaction is its last. -/
theorem test_fourth_failure_halts : seen .transactionTimeout (overdue 3) (fun t => t.stn) =
    some .halted := by decide

theorem test_third_failure_waits : seen .transactionTimeout (overdue 2)
    (fun t => (t.stn, t.loader.phase, t.loader.failures, t.loader.timer)) = some (.load, .waiting, 3, some 5) := by decide

theorem test_retry_wait : seen .retryWait
    { reading .crc 1 [] with loader := ⟨.waiting, .crc, 1, some 0, []⟩ }
    (fun t => (t.loader.phase, t.loader.part, t.loader.timer)) = some (.reading, .crc, some 25) := by decide

/-- R168: the channels of kind NONE are OFF, the others in DOSING; lines 011 are index 3. -/
theorem test_service_begins : (joined.stn, joined.channels.toList.map Channel.state, joined.selector.index, joined.faultOut)
    = (.join, [.dosing, .dosing, .off, .dosing], 3, false) := by decide

/-- An awaited ANSWER in the queue. -/
def awaiting : Entry := ⟨.answer ⟨30, 7, 13, .accepted, 255, .plain⟩, true, 0, false⟩

/-- A restart awaited (R143). -/
def restarting : State := { demo with restartPending := true, link := { demo.link with queue := [awaiting] } }

theorem test_restart_begins : seen .restartBegins restarting (fun t => (t.stn, t.restartPending, t.link.queue)) =
    some (.load, false, []) := by decide

theorem test_flow_pulse : seen .flowPulse demo (fun t => (t.flow.pulseCount, t.flow.idleTimer)) =
    some (1, some 10000) := by decide

/-- 1.9.1, the first second. -/
theorem test_flow_sample_first : seen .flowSample (due { demo with flow := { demo.flow with pulseCount := 12 } })
    (fun t => (t.flow.ring, t.flow.q, t.flow.v, t.flow.wpos)) = some (⟨1200, 0, 0, 0⟩, 300, 1200, 1) := by decide

/-- 1.9.2 with Lp = 1,000 L as 450 pulses of 100 L: the ring takes the cap, V the whole. -/
theorem test_flow_sample_capped : seen .flowSample
    (due { demo with flow := { demo.flow with pulseCount := 450, ring := ⟨30000, 31000, 32000, 33000⟩, v := 900000000 } })
    (fun t => (t.flow.ring, t.flow.q, t.flow.v, (t.channel 1).iv.volume)) =
    some (⟨40000, 31000, 32000, 33000⟩, 34000, 900045000, 45000) := by decide

/-- 1.9.3: at the idle expiry a channel in DOSING goes to STANDBY and loses its credit. -/
theorem test_idle_expiry : seen .idleTimerExpiry
    ((due demo).onChannel 0 fun c => { c with feeder := { c.feeder with ac := 500 } })
    (fun t => (t.flow.idle, (t.channel 0).state, (t.channel 0).feeder.ac, (t.channel 2).state)) =
    some (true, .standby, 0, .off) := by decide

/-- R9: a pulse before the expiry of the same moment; the expiry does not happen. -/
theorem test_pulse_before_idle_expiry : seen .idleTimerExpiry (after .flowPulse (due demo))
    (fun t => (t.flow.idle, t.flow.idleTimer)) = some (false, some 10000) := by decide

theorem test_line_change_settles : seen (.lineChange true false true) demo (fun t => t.selector) =
    some ⟨3, some 5, some 20000⟩ := by decide

theorem test_line_change_back : seen (.lineChange true true false)
    { demo with psel := (true, false, true), selector := ⟨3, some 5, some 700⟩ } (fun t => t.selector) =
    some ⟨3, none, none⟩ := by decide

/-- 2.12.4: channel 0 adopts index 5 and loses its target override, channel 1 keeps its override. -/
theorem test_settle_expiry : seen .settleTimerExpiry
    (({ demo with selector := ⟨3, some 5, some 0⟩ }.onChannel 0 fun c =>
        { c with dose := { c.dose with targetOverride := some 3000, pendingTarget := some (.value 3200) } }).onChannel 1
      fun c => { c with dose := { c.dose with profileOverride := some 3 } })
    (fun t => ((t.channel 0).dose.activeIndex, (t.channel 0).dose.targetOverride, (t.channel 0).dose.pendingTarget,
      (t.channel 1).dose.activeIndex)) = some (5, none, some (.value 3200), 3) := by decide

/-- R18: a line change before the expiry of the same moment; the settling begins again. -/
theorem test_line_change_before_settle_expiry : seen .settleTimerExpiry
    (after (.lineChange true false false) { demo with selector := ⟨3, some 5, some 0⟩ }) (fun t => t.selector) =
    some ⟨3, some 1, some 20000⟩ := by decide

/-- The peers of 5.8.1 and 5.8.3. -/
def peers : PeerView :=
  { demo.peer with
    table :=
      [⟨2, 2, .run, ⟨2900, 0, 20000, 0⟩, false, 0⟩, ⟨9, 4, .run, ⟨4100, 0, 90000, 0⟩, false, 0⟩,
        ⟨14, 6, .run, ⟨0, 0, 70000, 0⟩, false, 0⟩] }

/-- The station before the update of 2.12.1. -/
def storm : State :=
  (due { demo with flow := flowAt 41801250, peer := peers }).onChannel 0 fun c =>
    { c with dose := { c.dose with tdp := some 290, pipeline := [⟨41800000, 340⟩, ⟨42175000, 410⟩] } }

/-- 2.12.1 and 5.8.1: Deff, M, M′, the grant, the credit and the shortfall. -/
theorem test_dose_update_coagulant : seen (.doseUpdate 0) storm
    (fun t => [(t.channel 0).dose.tdp.getD 0, (t.channel 0).dose.deff, (t.channel 0).dose.m, (t.channel 0).dose.mCap,
      (t.channel 0).dose.gch, (t.channel 0).iv.shortfall, (t.share.get 2).gStation, (t.channel 0).feeder.ac]) =
    some [340, 6100, 76250, 76250, 55000, 21250, 55000, 29000] := by decide +kernel

/-- 2.12.3 and 5.8.3: a chlorine dose, its grant and the delivered dose. -/
theorem test_dose_update_chlorine : seen (.doseUpdate 1)
    ((due { demo with flow := flowAt 40000000, peer := peers }).onChannel 1
      fun c => { c with dose := { c.dose with eest := 95 } })
    (fun t => ((t.channel 1).dose.deff, (t.channel 1).dose.m, (t.channel 1).dose.gch, (t.channel 1).dose.history)) =
    some (245, 3062, 3062, [⟨40000000, 244, false⟩]) := by decide +kernel

/-- 5.8.1 and 5.8.3: every grant of the walk. -/
theorem test_water_fill : (fill 200000 [⟨5, 4, 76250⟩, ⟨9, 4, 90000⟩, ⟨2, 2, 20000⟩, ⟨14, 6, 70000⟩],
    fill 9000 [⟨5, 4, 3062⟩, ⟨9, 4, 4100⟩, ⟨2, 2, 2900⟩]) =
    ([(2, 20000), (14, 70000), (5, 55000), (9, 55000)], [(5, 3062), (9, 3958), (2, 1979)]) := by decide +kernel

/-- 5.8.5: equal ratios stand in the order of the station numbers. -/
theorem test_water_fill_order : (orderParticipants [⟨8, 6, 60000⟩, ⟨5, 3, 30000⟩, ⟨3, 3, 30000⟩]).map Participant.number
    = [3, 5, 8] := by decide +kernel

/-- 5.8.4. -/
theorem test_split : (split 45000 64500 41000, split 45000 64500 23500, split 23500 23500 23500) =
    (28604, 16395, 23500) := by decide +kernel

/-- 3.5.4 and 3.5.5. -/
theorem test_history_entry : (enterDose 60000000 312 5 [⟨59999500, 300, false⟩],
    enterDose 60000000 330 5 [⟨60000000, 312, false⟩], enterDose 60000000 332 5 [⟨60000000, 330, false⟩],
    (enterDose 50001250 480 5 (List.replicate 8 ⟨49900000, 450, false⟩)).getLast?) =
    ([⟨59999500, 300, false⟩, ⟨60000000, 312, false⟩], [⟨60000000, 330, false⟩], [⟨60000000, 330, false⟩],
      some ⟨49900000, 480, true⟩) := by decide +kernel

/-- 3.5.3: the front entry leaves when the second mark reaches V − lag. -/
theorem test_history_pruned : pruneHistory 40900000 2700000 [⟨36000000, 230, false⟩, ⟨38100000, 244, false⟩] =
    [⟨38100000, 244, false⟩] := by decide +kernel

/-- A sample message with its check byte. -/
def sample (analyzer measurand quality : Byte) (value : Half) : SampleMessage :=
  let m : SampleMessage := ⟨0xA5, analyzer, measurand, quality, value, 0⟩
  { m with check := BitVec.ofNat 8 (256 - ((messageBytes m).map BitVec.toNat).sum % 256) }

/-- 3.5.1: a GOOD 340 at V = 40,000,000 L. -/
theorem test_analyzer_message_turbidity : seen (.analyzerMessage (sample 4 2 0 340)) { demo with flow := flowAt 40000000 }
    (fun t => ((t.channel 0).dose.pipeline, (t.channel 0).iv.good, (t.intake.records.get 4).timer)) =
    some ([⟨41800000, 340⟩], 1, some 300000) := by decide +kernel

/-- 3.5.3: a residual of 140 read against a dose of 244 moves Eest from 95 to 97. -/
theorem test_analyzer_message_residual : seen (.analyzerMessage (sample 2 1 0 140))
    (({ demo with flow := flowAt 41400000 } : State).onChannel 1 fun c =>
      { c with dose := { c.dose with eest := 95, history := [⟨38100000, 244, false⟩, ⟨40900000, 260, false⟩] } })
    (fun t => ((t.channel 1).dose.eest, (t.channel 1).sup.lastResidual)) = some (97, some 140) := by decide +kernel

/-- R172: the byte 0xA5 opens a message; the seventh byte is its arrival. -/
theorem test_byte_opens : seen (.receivedByteOnAnz 0xA5) demo (fun t => (t.intake.buffer, t.intake.gapTimer)) =
    some ([0xA5], some 10) := by decide +kernel

theorem test_seventh_byte : seen (.receivedByteOnAnz (sample 2 1 0 310).check)
    { demo with intake := { demo.intake with buffer := (messageBytes (sample 2 1 0 310)).take 6 } }
    (fun t => (t.intake.buffer, (t.channel 1).sup.high, (t.channel 1).sup.tH)) = some ([], .alert, some 120000) := by
  decide +kernel

theorem test_message_gap : seen .messageGap { due demo with intake := { (due demo).intake with buffer := [0xA5, 2] } }
    (fun t => (t.intake.buffer, (t.channel 0).iv.received, (t.channel 1).iv.received)) = some ([], 0, 1) := by decide +kernel

theorem test_freshness_expiry : seen (.freshnessTimerExpiry 2) (due demo)
    (fun t => ((t.intake.records.get 2).fresh, (t.channel 1).sup.stale, (t.channel 1).state, t.link.queue.length)) =
    some (false, .active, .dosing, 1) := by decide +kernel

/-- R40: a sample before the expiry of the same moment; the record stays FRESH. -/
theorem test_sample_before_freshness_expiry :
    seen (.freshnessTimerExpiry 2) (after (.analyzerMessage (sample 2 1 0 140)) (due demo))
      (fun t => ((t.intake.records.get 2).fresh, (t.channel 1).sup.stale, t.link.queue)) =
    some (true, .clear, []) := by decide +kernel

/-- Channel 1 as at 7.10.1, 170 s: HIGH RESIDUAL and HIGH-HIGH RESIDUAL in ALERT, both timers at their expiry. -/
def rising : State := demo.onChannel 1 fun c =>
  { c with
    sup := { c.sup with high := .alert, tH := some 0, highHigh := .alert, tHH := some 0, lastResidual := some 470 } }

/-- 7.10.1 at 180 s and 200 s. -/
theorem test_alert_expiry_holds : seen (.alertTimerExpiry 1 .high) rising
    (fun t => ((t.channel 1).sup.high, (t.channel 1).state, t.faultOut)) = some (.active, .held, false) := by decide +kernel

theorem test_alert_expiry_locks : seen (.alertTimerExpiry 1 .highHigh) rising
    (fun t => ((t.channel 1).state, (t.channel 1).feeder.inh, t.faultOut, (t.channel 1).sup.lockout.map Lockout.cause)) =
    some (.locked, true, true, some .highHigh) := by decide +kernel

/-- 7.10.2: RUN-ON in ALERT, both timers at their expiry. -/
def unasked : State := demo.onChannel 0 fun c =>
  { c with sup := { c.sup with runOn := .alert, runOnTimer := some 0, quietTimer := some 0 } }

theorem test_confirm_unexpected : seen (.confirm 0) unasked
    (fun t => ((t.channel 0).sup.runOn, (t.channel 0).sup.runOnTimer, (t.channel 0).sup.quietTimer, (t.channel 0).state)) =
    some (.active, none, some 5000, .locked) := by decide +kernel

theorem test_run_on_expiry : seen (.runOnTimerExpiry 0) unasked
    (fun t => ((t.channel 0).sup.runOn, (t.channel 0).sup.runOnTimer, t.link.queue)) = some (.clear, none, []) := by
  decide +kernel

theorem test_quiet_expiry : seen (.quietTimerExpiry 0) unasked
    (fun t => ((t.channel 0).sup.quietTimer, (t.channel 0).sup.runOn)) = some (none, .alert) := by decide +kernel

/-- Channel 0 with some credit, timer and strokes. -/
def stroking (ac : Nat) (timer : Timer) (strokes : List Stroke) (misses : Nat) : State := demo.onChannel 0 fun c =>
  { c with feeder := { c.feeder with ac := ac, timer := timer, strokes := strokes, misses := misses } }

/-- 6.8.1 at 333 ms. -/
theorem test_stroke_interval : seen (.strokeIntervalExpiry 0) (stroking 50250 (some 0) [] 0)
    (fun t => ((t.channel 0).feeder.ac, (t.channel 0).feeder.timer, (t.channel 0).feeder.strokes)) =
    some (24250, some 333, [⟨.pending, 500⟩]) := by decide +kernel

/-- 6.8.1 at 666 ms: the credit is too small. -/
theorem test_stroke_interval_stops : seen (.strokeIntervalExpiry 0) (stroking 24250 (some 0) [] 0)
    (fun t => ((t.channel 0).feeder.ac, (t.channel 0).feeder.timer)) = some (24250, none) := by decide +kernel

theorem test_confirm_late : seen (.confirm 0) (stroking 0 none [⟨.missed, 300⟩, ⟨.pending, 90⟩] 2)
    (fun t => ((t.channel 0).feeder.strokes, (t.channel 0).iv.late, (t.channel 0).feeder.misses)) =
    some ([⟨.pending, 90⟩], 1, 2) := by decide +kernel

/-- 6.8.2 at 1,166 ms: the third miss. -/
theorem test_deadline : seen (.deadlineExpiry 0)
    (stroking 76250 (some 166) [⟨.missed, 167⟩, ⟨.pending, 0⟩, ⟨.pending, 333⟩] 2)
    (fun t => ((t.channel 0).feeder.strokes, (t.channel 0).feeder.misses, (t.channel 0).state, (t.channel 0).feeder.ac)) =
    some ([⟨.missed, 167⟩, ⟨.missed, 500⟩, ⟨.pending, 333⟩], 3, .faulted, 0) := by decide +kernel

/-- 6.8.2 at 1,333 ms. -/
theorem test_grace : seen (.graceDeadlineExpiry 0) (stroking 0 none [⟨.missed, 0⟩, ⟨.missed, 333⟩] 3)
    (fun t => ((t.channel 0).feeder.strokes, (t.channel 0).feeder.misses)) = some ([⟨.missed, 333⟩], 3) := by
  decide +kernel

/-- 4.7.1 at 6.0 s: the silence count reaches the limit. -/
theorem test_announce_isolation : seen .announceExpiry { due demo with peer := { (due demo).peer with silence := 2 } }
    (fun t => (t.stn, t.peer.silence, t.link.queue.map Entry.body, t.link.slot.map fun a => a.demand.state)) =
    some (.isolated, 3, [.alarm .isolationBegun], some .isolated) := by decide +kernel

/-- 4.7.2 at 112.0 s: the sixth expiry removes an entry. -/
theorem test_announce_ages : seen .announceExpiry
    { due demo with peer := { (due demo).peer with table := [⟨9, 4, .run, ⟨0, 0, 0, 0⟩, false, 4⟩, ⟨14, 6, .run, ⟨0, 0, 0, 0⟩, false, 5⟩] } }
    (fun t => t.peer.table.map fun e => (e.number, e.age)) = some [(9, 5)] := by decide +kernel

/-- 4.7.1 at 9.3 s. -/
theorem test_demand_frame : seen (.demandFrame 9 255 0 2 1 ⟨1, 2, 3, 4⟩) { demo with stn := .isolated }
    (fun t => (t.stn, t.peer.table, t.link.queue.map Entry.body)) =
    some (.join, [⟨9, 1, .run, ⟨1, 2, 3, 4⟩, true, 0⟩], [.alarm .isolationEnded]) := by decide +kernel

theorem test_supply_frame : seen (.supplyFrame 20 255 2 400000) demo
    (fun t => (t.peer.capacity.get 2, t.capacityOf demoImage 2)) = some (⟨some ⟨20, 300000, 0⟩, none⟩, 300000) := by
  decide +kernel

/-- 4.7.3 at 200.7 s. -/
theorem test_conflict_frame : seen .conflictFrame
    { demo with link := { demo.link with queue := [{ awaiting with awaited := false }] } }
    (fun t => (t.stn, t.peer.conflictSeen, t.link.queue)) = some (.silent, true, []) := by decide +kernel

theorem test_other_frame : seen (.otherFrame 9 3 255) { demo with peer := { demo.peer with silence := 2 } }
    (fun t => (t.peer.silence, t.peer.heard, t.recs.accepted)) = some (0, true, 1) := by decide +kernel

/-- 4.7.3 at 202.0 s: the expiry after the conflict clears its flag and the clean count stays 0. -/
theorem test_expiry_after_conflict : seen .announceExpiry (due (after .conflictFrame demo))
    (fun t => (t.stn, t.peer.conflictSeen, t.peer.conflictClear)) = some (.silent, false, 0) := by decide +kernel

/-- R66: a conflict frame and an announce expiry that arrive together in RUN end with the flag set in either order,
and the flag is cleared at the expiry after them. -/
theorem test_conflict_with_an_expiry :
    let counts := fun t : State => (t.stn, t.peer.conflictSeen, t.peer.conflictClear)
    let both := after .announceExpiry (after .conflictFrame (due demo))
    (counts both = (.silent, true, 0) ∧
      counts (after .conflictFrame (after .announceExpiry (due demo))) = (.silent, true, 0)) ∧
    seen .announceExpiry (due both) counts = some (.silent, false, 0) := by
  and_intros <;> decide +kernel

theorem test_link_reject : seen (.linkReject [1, 9, 3]) demo (fun t => (t.recs.rejected, t.peer.heard)) =
    some (1, false) := by decide +kernel

/-- The answers waiting: kind, result and value. -/
def answers (s : State) : List (Nat × ResultCode × AnswerContent) :=
  s.link.queue.filterMap fun e =>
    match e.body with
    | .answer a => some (a.kind, a.result, a.content)
    | .alarm _ => none
    | .records _ => none

theorem test_target_clamped : seen (.target 30 5 7 1 0 1001) demo
    (fun t => ((t.channel 1).dose.targetOverride, answers t)) =
    some (some 1000, [(6, .clamped, .value (some 1000))]) := by decide +kernel

theorem test_profile : seen (.profile 30 5 7 1 0 4) demo
    (fun t => ((t.channel 1).dose.activeIndex, (t.channel 1).dose.eest, answers t)) =
    some (4, 50, [(7, .accepted, .value (some 4))]) := by decide +kernel

theorem test_ceiling : seen (.ceiling 30 5 7 0 6000)
    (demo.onChannel 0 fun c => { c with dose := { c.dose with deff := 8000 } })
    (fun t => ((t.channel 0).dose.cw, (t.channel 0).dose.deff, answers t)) =
    some (6000, 6000, [(8, .accepted, .value (some 6000))]) := by decide +kernel

theorem test_freeze : seen (.freeze 30 255 7 0) demo (fun t => ((t.channel 0).dose.freeze, answers t)) =
    some (true, [(9, .accepted, .plain)]) := by decide +kernel

theorem test_commit : seen (.commit 30 255) ({ demo with stn := .silent }.onChannel 0 fun c =>
      { c with dose := { c.dose with pendingProfile := some (.index 5), pendingTarget := some (.value 3200) } })
    (fun t => ((t.channel 0).dose.activeIndex, (t.channel 0).dose.targetOverride, (t.channel 0).dose.pendingProfile)) =
    some (5, some 3200, none) := by decide +kernel

/-- Channel 0 FAULTED, channel 1 LOCKED by HIGH-HIGH RESIDUAL with a last residual of 420 (7.10.1 at 240 s). -/
def stopped : State :=
  ((demo.onChannel 0 fun c =>
      { c with state := .faulted, sup := { c.sup with feederFault := .active }, feeder := { c.feeder with misses := 3 } }).onChannel 1
    fun c =>
      { c with
        state := .locked
        feeder := { c.feeder with inh := true }
        sup :=
          { c.sup with
            high := .active
            highHigh := .active
            lastResidual := some 420
            lockout := some ⟨.highHigh, 45225000, 3, 245, 0, 97, some 470, 0, false, false, false⟩ } }).formFault

theorem test_clear_feeder : seen (.clearFeeder 30 5 7 0) stopped
    (fun t => ((t.channel 0).state, (t.channel 0).feeder.misses, t.link.queue.length)) =
    some (.dosing, 0, 2) := by decide +kernel

theorem test_release : seen (.release 30 5 7 1) stopped
    (fun t => ((t.channel 1).state, (t.channel 1).dose.eest, (t.channel 1).feeder.inh,
      (t.channel 1).sup.lockout.map Lockout.released)) = some (.dosing, 120, false, some true) := by decide +kernel

theorem test_restart : seen (.restart 30 5 7) demo (fun t => (t.stn, t.restartPending, t.link.queue)) =
    some (.run, true, [awaiting]) := by decide +kernel

/-- A dose record of a number. -/
def record (n : Nat) : DoseRecord := ⟨n, 0, .dosing, 0, 0, 0, 0, 0, none, none, false, false, false⟩

/-- 9.5 at 1,500 s. -/
theorem test_flush : seen (.flush 30 255) { demo with recs := { demo.recs with queue := [record 43] } }
    (fun t => (t.recs.queue, t.link.queue.map Entry.body)) = some ([], [.records [record 43]]) := by decide +kernel

theorem test_query_lockout : seen (.query 30 5 7 4 1 0) stopped answers =
    some [(15, .accepted, .lockout (some ⟨.highHigh, 45225000, 3, 245, 0, 97, some 470, 0, false, false, false⟩))] := by
  decide +kernel

/-- Frames of 10.5: an ALARM, an ANSWER, a RECORDS. -/
def alarmEntry (ch : Fin 4) (inAttempt : Bool) : Entry :=
  ⟨.alarm (.channel ch .tLExpiry none .dosing .dosing .active .clear .clear .clear .clear .clear), false, 0, inAttempt⟩

/-- An ANSWER with a tag. -/
def answerEntry (tag : Byte) : Entry := ⟨.answer ⟨30, tag, 9, .accepted, 0, .plain⟩, false, 0, false⟩

/-- A RECORDS frame with one record. -/
def recordsEntry (n : Nat) (inAttempt : Bool) : Entry := ⟨.records [record n], false, 0, inAttempt⟩

/-- The full queue of 10.5: A1, N1, N2, K1 in attempt, K2, N3, K3, A2. -/
def fullQueue : List Entry :=
  [alarmEntry 0 false, answerEntry 1, answerEntry 2, recordsEntry 1 true, recordsEntry 2 false, answerEntry 3,
    recordsEntry 3 false, alarmEntry 1 false]

/-- 10.5: A3 takes the place of K3, A4 that of K2, N4 is dropped, A5 takes the place of N1. -/
theorem test_drop_order :
    ((((({ demo.link with queue := fullQueue } : Link).enqueue (alarmEntry 2 false)).enqueue (alarmEntry 3 false)).enqueue
      (answerEntry 4)).enqueue (alarmEntry 0 false)).queue =
    [alarmEntry 0 false, answerEntry 2, recordsEntry 1 true, answerEntry 3, alarmEntry 1 false, alarmEntry 2 false,
      alarmEntry 3 false, alarmEntry 0 false] := by decide +kernel

/-- 10.5: with only ALARM frames waiting, the ALARM itself is dropped and both parts of the flag are set. -/
theorem test_drop_order_overflow :
    ({ demo.link with queue := List.replicate 8 (alarmEntry 0 false) } : Link).enqueue (alarmEntry 1 false) =
      { demo.link with
        queue := List.replicate 8 (alarmEntry 0 false), overflowDemand := true, overflowAlarm := true } := by
  decide +kernel

theorem test_transmit_attempt : seen .transmitAttempt
    { demo with link := { demo.link with queue := [recordsEntry 1 false, answerEntry 1, answerEntry 2] } }
    (fun t => (t.link.queue.map Entry.inAttempt, t.link.tx)) =
    some ([false, true, false], .entry false ((answerEntry 1).body.wire 5 false)) := by decide +kernel

/-- R157: without a waiting frame the line is left idle. -/
theorem test_line_becomes_idle : seen .transmitAttempt demo (fun t => (t.link.line, t.link.tx)) =
    some (.idle, .idle) := by decide +kernel

/-- A frame of the queue on the line. -/
def driving (collisions : Nat) : State :=
  { demo with
    link :=
      { demo.link with
        queue := [answerEntry 1, { recordsEntry 1 true with collisions := collisions }]
        tx := .entry false ((recordsEntry 1 true).body.wire 5 false)
        line := .own } }

/-- R158: a part that drives a frame receives none. -/
theorem test_no_reception_while_driving : seen (.otherFrame 9 3 255) (driving 0)
    (fun t => (t.recs.accepted, t.peer.heard)) = some (0, false) := by decide +kernel

theorem test_frame_lost : seen .frameLost (driving 1) (fun t => (t.link.tx, t.link.queue.map Entry.collisions)) =
    some (.idle, [0, 1]) := by decide +kernel

/-- R158: the third collision drops the frame. -/
theorem test_frame_collided : (seen .frameCollided (driving 1) (fun t => t.link.queue.map Entry.collisions),
    seen .frameCollided (driving 2) (fun t => (t.link.queue, t.recs.rejected))) =
    (some [0, 2], some ([answerEntry 1], 1)) := by decide +kernel

theorem test_frame_completed : seen .frameCompleted (driving 0) (fun t => (t.link.tx, t.link.queue)) =
    some (.idle, [answerEntry 1]) := by decide +kernel

/-- R158, R162: after a lost attempt the winning frame is taken; what was read during one that collided or completed
is not, until the line has been idle. -/
theorem test_reception_after_an_attempt :
    ([after .frameLost (driving 0), after .frameCollided (driving 0), after .frameCompleted (driving 0)].map fun s =>
      seen (.otherFrame 9 3 255) s fun t => t.recs.accepted) = [some 1, some 0, some 0] ∧
    seen (.linkReject [1, 9, 3]) (after .frameCompleted (driving 0)) (fun t => t.recs.rejected) = some 0 ∧
    seen (.otherFrame 9 3 255) (after .transmitAttempt { demo with link := { demo.link with line := .own } })
      (fun t => t.recs.accepted) = some 1 := by
  and_intros <;> decide +kernel

/-- R155: the lower priority number wins the line. -/
theorem test_contention : attemptCommand [4, 5, 4] ([4, 5, 4].zipWith (fun a b => a &&& b) [1, 9, 3]) = .frameLost := by
  decide +kernel

/-- 9.5 at 1,200 s: records 42 and 43 are built, the oldest three of four are packed. -/
def closing : State :=
  { due demo with recs := { (due demo).recs with queue := [record 40, record 41], seq := 42 } }.onChannel 1 fun c =>
    { c with
      iv :=
        { c.iv with
          volume := 750000, granted := 1837200, mSum := 1837200, gSum := 1837200, issued := 3055, confirmed := 3020
          received := 10, good := 10 } }

theorem test_report_expiry : seen .reportTimerExpiry
    { closing with config := some { demoImage with channels := demoImage.channels.set 3 ChannelConfig.unconfigured } }
    (fun t => (t.recs.queue.map fun r => (r.seq, r.meanDose), t.recs.seq, t.link.queue.length,
      (t.recs.health.channels.get 1).feed.value, t.recs.warning)) = some ([(43, 244)], 44, 1, 98, true) := by
  decide +kernel

theorem test_packing : seen .packingTest
    { demo with recs := { demo.recs with queue := [record 1, record 2, record 3, record 4] } }
    (fun t => (t.recs.queue, t.link.queue.map Entry.body)) =
    some ([record 4], [.records [record 1, record 2, record 3]]) := by decide +kernel

/-! ### Formats -/

/-- 12.1, 12.4: the bytes of the ANSWER to a FREEZE, but for its CRC. -/
theorem test_answer_bytes : ((answerEntry 7).body.wire 5 false).take 8 = [4, 5, 4, 30, 3, 7, 0x90, 0] := by decide +kernel

/-- 12.1.1, 12.3: the bytes of a CHANNEL ALARM with the overflow flag: channel 3, HIGH-HIGH RESIDUAL and RUN-ON ACTIVE,
ANALYZER STALE ACTIVE, from DOSING to LOCKED by a run-on event. -/
theorem test_alarm_bytes : ((Body.alarm (.channel 3 .runOnEvent (some 452) .dosing .locked
      .clear .alert .active .active .clear .active)).wire 5 true).take 15 =
    [1, 5, 3, 255, 10, 1, 1, 3, 5, 0x01, 0xC4, 1, 5, 0x08, 0xA4] := by decide +kernel

/-- 12.3: the bytes of a RECORDS of one record, figures at their ends, without a residual. -/
theorem test_records_bytes : ((Body.records [⟨65535, 3, .faulted, 4294967295, 1, 256, 65536, 244, none, some 300,
      true, false, true⟩]).wire 5 false).take 32 =
    [6, 5, 5, 255, 27, 0xFF, 0xFF, 3, 4, 0xFF, 0xFF, 0xFF, 0xFF, 0, 0, 0, 1, 0, 0, 1, 0, 0, 1, 0, 0,
      0, 244, 0xFF, 0xFF, 1, 0x2C, 5] := by decide +kernel

/-- 12.2: a TARGET from station 30, byte by byte, is read as the command it is. -/
theorem test_target_bytes : commandOfFrame 5 (withCrc [3, 30, 6, 5, 5, 0x2A, 1, 2, 0x12, 0x34]) =
    .target 30 5 0x2A 1 2 0x1234 := by decide +kernel

/-- R162: bytes after byte 6 + n are of no frame. -/
theorem test_bytes_after_a_frame : commandOfFrame 5 (withCrc [3, 30, 9, 5, 2, 7, 1] ++ [0xFF, 0]) = .freeze 30 5 7 1 := by
  decide +kernel

/-- 12.2: a SUPPLY. -/
theorem test_supply_bytes : commandOfFrame 5 (withCrc [2, 20, 2, 255, 5, 3, 0x00, 0x01, 0x5F, 0x90]) =
    .supplyFrame 20 255 3 90000 := by decide +kernel

theorem test_bad_crc_is_a_reject : commandOfFrame 5 [3, 30, 9, 5, 2, 7, 0, 0, 0] = .linkReject [3, 30, 9, 5, 2, 7, 0, 0, 0] := by
  decide +kernel

/-! ### Witnesses: for each statement with hypotheses, states and operands that meet them

Each theorem gives, clause by clause, the hypotheses of the statement of that name on a state of this file, at the
boundary values of the clause. -/

/-- The part with the idle flag set. -/
def idleDemo : State := after .idleTimerExpiry (due demo)

/-- Channel 1 in LOCKED after the expiry of T_HH. -/
def lockedDemo : State := after (.alertTimerExpiry 1 .highHigh) rising

/-- Channel 0 in FAULTED after its third miss. -/
def faultedDemo : State := after (.deadlineExpiry 0) (stroking 0 none [⟨.pending, 0⟩] 2)

theorem derived_of (s : State) (h1 : s.service = some demoImage)
    (h2 : ∀ k, (s.channel k).state =
      if (demoImage.channel k).configured then (s.channel k).sup.derive s.flow.idle else .off) : s.StatesDerived := by
  intro im h
  rw [h1] at h
  cases h
  exact h2

theorem idleDemo_derived : idleDemo.StatesDerived := derived_of _ (by decide +kernel) (by decide +kernel)

theorem rising_derived : rising.StatesDerived := derived_of _ (by decide +kernel) (by decide +kernel)

theorem lockedDemo_derived : lockedDemo.StatesDerived := derived_of _ (by decide +kernel) (by decide +kernel)

theorem faultedDemo_derived : faultedDemo.StatesDerived := derived_of _ (by decide +kernel) (by decide +kernel)

theorem unasked_derived : unasked.StatesDerived := derived_of _ (by decide +kernel) (by decide +kernel)

theorem witness_StepTakesTheFrontCommand :
    ({ demo with pending := [.flowSample, .packingTest] } : State).pending = .flowSample :: [.packingTest] := by
  decide +kernel

/-- Nothing due; one expiry due; two due at once. -/
theorem witness_AnEmptyQueueLetsTimePass : demo.pending = [] ∧ demo.dueCommands = [] ∧
    ({ demo with flow := { demo.flow with idleTimer := some 0 } } : State).dueCommands = [.idleTimerExpiry] ∧
    ({ demo with flow := { demo.flow with idleTimer := some 0, sampleTimer := some 0 } } : State).dueCommands.length = 2 := by
  and_intros <;> decide +kernel

/-- The first part, a middle one and the last before the CRC; no failure and two failures before. -/
theorem witness_TheReadGoesOnAndRetries : State.reset.resetN = false ∧
    (reading .header 0 []).loader.phase = .reading ∧ Part.header.next = some .station ∧
    ([0x01, 0x02, 0x1B] : List Byte).length = Part.header.size ∧
    (Part.group 3).next = some (.channel 0) ∧ (List.replicate 8 (0 : Byte)).length = (Part.group 3).size ∧
    (Part.channel 3).next = some .crc ∧ (List.replicate 121 (0 : Byte)).length = (Part.channel 3).size ∧
    (reading .station 0 []).loader.failures < 3 ∧ (reading .station 2 []).loader.failures < 3 ∧
    (overdue 2).loader.phase = .reading ∧ (overdue 2).loader.failures < 3 ∧ (overdue 2).loader.timer = some 0 ∧
    ({ State.reset with loader := ⟨.waiting, .crc, 1, some 0, []⟩ } : State).loader.phase = .waiting ∧
    ({ State.reset with loader := ⟨.waiting, .crc, 1, some 0, []⟩ } : State).loader.timer = some 0 := by
  and_intros <;> decide +kernel

theorem witness_ABadImageHaltsThePart : (reading .station 3 []).loader.phase = .reading ∧
    3 ≤ (reading .station 3 []).loader.failures ∧ (overdue 3).loader.phase = .reading ∧
    3 ≤ (overdue 3).loader.failures ∧ (overdue 3).loader.timer = some 0 ∧
    ([0x01, 0x02, 0x1A] : List Byte).length = (reading .header 0 []).loader.part.size ∧
    ([0x01, 0x02, 0x1A] : List Byte) ≠ [0x01, 0x02, 0x1B] ∧
    (reading .crc 0 (imageBytes demoImage)).loader.part = .crc ∧
    checkImage ((reading .crc 0 (imageBytes demoImage)).loader.bytes ++ [0x94, 0x25]) = none :=
  ⟨rfl, by decide, rfl, by decide, rfl, by decide, by decide, rfl, test_image_with_another_crc_is_refused⟩

/-- The part at the end of a load, after a service that left a lock on channel 1, or on channel 3 with its tHH of 0 s. -/
def loading (old : Option Image) (k : Fin 4) : State :=
  ({ reading .crc 0 (imageBytes demoImage) with config := old } : State).onChannel k fun c =>
    { c with state := .locked, sup := { c.sup with highHigh := .active, runOn := .active } }

/-- A first load; one that finds a lock. Channels 0 and 1 are configured, channel 2 is not. -/
theorem witness_AValidImageBeginsService : (reading .crc 0 (imageBytes demoImage)).loader.phase = .reading ∧
    (reading .crc 0 (imageBytes demoImage)).loader.part = .crc ∧ ([0x94, 0x24] : List Byte).length = 2 ∧
    checkImage ((reading .crc 0 (imageBytes demoImage)).loader.bytes ++ [0x94, 0x24]) = some demoImage ∧
    checkImage ((loading none 1).loader.bytes ++ [0x94, 0x24]) = some demoImage ∧
    ((reading .crc 0 (imageBytes demoImage)).channel 1).sup.highHigh ≠ .active ∧
    ((loading none 1).channel 1).sup.highHigh = .active ∧ (demoImage.channel 1).kind = .chlorine ∧
    (demoImage.channel 2).kind = .none :=
  ⟨rfl, rfl, rfl, test_image_is_read, test_image_is_read, by decide, by decide, rfl, rfl⟩

/-- The same kind with a lock kept, with a tHH of 0 s, and another kind. -/
theorem witness_TheLoadKeepsALock : (loading (some demoImage) 1).loader.phase = .reading ∧
    (loading (some demoImage) 1).loader.part = .crc ∧ (loading (some demoImage) 1).config = some demoImage ∧
    checkImage ((loading (some demoImage) 1).loader.bytes ++ [0x94, 0x24]) = some demoImage ∧
    ((loading (some demoImage) 1).channel 1).sup.highHigh = .active ∧ (demoImage.channel 1).tHH ≠ 0 ∧
    checkImage ((loading (some demoImage) 3).loader.bytes ++ [0x94, 0x24]) = some demoImage ∧
    ((loading (some demoImage) 3).channel 3).sup.highHigh = .active ∧ (demoImage.channel 3).tHH = 0 ∧
    checkImage ((loading (some changedImage) 1).loader.bytes ++ [0x94, 0x24]) = some demoImage ∧
    (changedImage.channel 1).kind ≠ (demoImage.channel 1).kind :=
  ⟨rfl, rfl, rfl, test_image_is_read, by decide, by decide, test_image_is_read, by decide, by decide,
    test_image_is_read, by decide⟩

/-- A restart with a channel LOCKED. -/
theorem witness_ARestartKeepsWhatItMust :
    ({ lockedDemo with restartPending := true, link := restarting.link } : State).service = some demoImage ∧
    (∃ e ∈ restarting.link.queue, e.awaited = true) ∧ (lockedDemo.channel 1).state = .locked ∧
    (lockedDemo.channel 1).sup.highHigh = .active ∧ (lockedDemo.channel 0).state ≠ .locked := by
  and_intros <;> decide +kernel

/-- The awaited ANSWER on the line, with two collisions before. -/
def awaitedOnLine : State :=
  { restarting with
    link := { demo.link with queue := [{ awaiting with inAttempt := true, collisions := 2 }], tx := .entry false [] } }

/-- The transmit queue full of waiting ALARM frames. -/
def fullOfAlarms : State := { demo with link := { demo.link with queue := List.replicate 8 (alarmEntry 0 false) } }

/-- To the own number and to 255; the queue full of frames that do not give way; on the line; in the queue. -/
theorem witness_ARestartAwaitsItsAnswer : demo.service = some demoImage ∧
    (30#8).toNat ≠ demoImage.station.number ∧ (5#8).toNat = demoImage.station.number ∧ demo.stn.transmits = true ∧
    demo.link.listens = true ∧
    fullOfAlarms.service = some demoImage ∧ fullOfAlarms.stn = .run ∧ fullOfAlarms.link.listens = true ∧ 8 ≤ fullOfAlarms.link.queue.length ∧
    (∀ e ∈ fullOfAlarms.link.queue, e.body.priority = 6 → e.inAttempt = true) ∧
    awaitedOnLine.service = some demoImage ∧ awaitedOnLine.restartPending = true ∧
    awaitedOnLine.link.tx = .entry false [] ∧
    (∃ e ∈ awaitedOnLine.link.queue, e.inAttempt = true ∧ e.awaited = true) ∧
    (∃ e ∈ awaitedOnLine.link.queue, e.inAttempt = true ∧ 2 ≤ e.collisions) ∧
    restarting.service = some demoImage ∧ restarting.restartPending = true ∧ restarting.stn.transmits = true ∧
    restarting.link.listens = true ∧ (∃ e ∈ restarting.link.queue, e.awaited = true ∧ e.body.priority = 4) := by
  and_intros <;> decide +kernel

/-- The flag clear; set, with a channel in STANDBY; the timer at its expiry, with a channel in DOSING and one that is
not; an expiry that a pulse of the same moment has come before. -/
theorem witness_PulsesAndTheIdleFlag : (demo.service = some demoImage ∧ demo.flow.idle = false) ∧
    (idleDemo.service = some demoImage ∧ idleDemo.flow.idle = true ∧ (idleDemo.channel 0).state = .standby) ∧
    idleDemo.StatesDerived ∧
    ((due lockedDemo).service = some demoImage ∧ (due lockedDemo).flow.idleTimer = some 0 ∧
      ((due lockedDemo).channel 0).state = .dosing ∧ ((due lockedDemo).channel 1).state = .locked) ∧
    (due lockedDemo).StatesDerived ∧ (after .flowPulse (due demo)).flow.idleTimer ≠ some 0 :=
  ⟨by decide +kernel, by decide +kernel, idleDemo_derived, by decide +kernel,
    derived_of _ (by decide +kernel) (by decide +kernel), by decide +kernel⟩

theorem witness_AFlowSampleMovesVAndQ : (due demo).service = some demoImage ∧
    (due demo).flow.sampleTimer = some 0 ∧
    (demoImage.channel 0).kind ≠ .none ∧ (demoImage.channel 2).kind = .none := by
  and_intros <;> decide +kernel

/-- A command that leaves the water alone, and one that clears it. -/
theorem witness_OnlySamplesMoveTheWater : (.flowPulse : Instr) ≠ .flowSample ∧
    (∃ t, exec .flowPulse demo = .next t) ∧ (.pinReset : Instr) ≠ .flowSample ∧ ∃ t, exec .pinReset demo = .next t :=
  ⟨by decide, ⟨_, rfl⟩, by decide, ⟨_, rfl⟩⟩

/-- To another index; back to the selector index; all lines high; in LOAD. -/
theorem witness_ALineChangeSettlesOrNot :
    (demo.service = some demoImage ∧ demo.psel ≠ (true, false, true) ∧ (5 : Fin 8) ≠ demo.selector.index) ∧
    (({ demo with psel := (true, false, true) } : State).psel ≠ (true, true, false) ∧
      (3 : Fin 8) = ({ demo with psel := (true, false, true) } : State).selector.index) ∧
    (demo.psel ≠ (true, true, true) ∧ (7 : Fin 8) ≠ demo.selector.index) ∧
    (State.reset.service = none ∧ State.reset.psel ≠ (true, true, true)) := by
  and_intros <;> decide +kernel

/-- A settled candidate 5: channel 0 follows it, channel 1 has an override, channel 3 has index 5 already. -/
def settling : State :=
  (({ demo with selector := ⟨3, some 5, some 0⟩ } : State).onChannel 1 fun c =>
    { c with dose := { c.dose with profileOverride := some 3 } }).onChannel 3 fun c =>
    { c with dose := { c.dose with activeIndex := 5 } }

theorem witness_ASettledIndexIsAdopted : settling.service = some demoImage ∧
    settling.selector.candidate = some 5 ∧ settling.selector.timer = some 0 ∧ (demoImage.channel 2).kind = .none ∧
    ((settling.channel 1).dose.profileOverride = some 3 ∧ (settling.channel 1).dose.activeIndex = 3) ∧
    ((settling.channel 3).dose.profileOverride = none ∧ (settling.channel 3).dose.activeIndex = 5) ∧
    ((settling.channel 0).dose.profileOverride = none ∧ (settling.channel 0).dose.activeIndex ≠ 5) ∧
    (after (.lineChange true false false) settling).selector.timer ≠ some 0 := by
  and_intros <;> decide +kernel

theorem witness_ACoagulantDoseFollowsTheWater : storm.service = some demoImage ∧
    (demoImage.channel 0).kind = .coagulant ∧ (storm.channel 0).dose.timer = some 0 := by
  and_intros <;> decide +kernel

/-- Channel 1 with a dose history, at V = 40,000,000 L. -/
def dosed (q : Nat) (history : List HistEntry) : State :=
  (due { demo with flow := { flowAt 40000000 with q := q }, peer := peers }).onChannel 1
    fun c => { c with dose := { c.dose with eest := 95, history := history } }

/-- The dose that the next update of channel 1 delivers. -/
def delivered (s : State) : Nat := ((after (.doseUpdate 1) s).channel 1).dose.gch * 100 / s.flow.q

/-- Q of 0; no history; the newest entry within the step, at the step on the mark, at the step off the mark with
seven entries and with eight; an entry pruned at the boundary of V less the lag. -/
theorem witness_AChlorineDoseFollowsTheEstimate : (dosed 0 []).service = some demoImage ∧
    (demoImage.channel 1).kind = .chlorine ∧ ((dosed 0 []).channel 1).dose.timer = some 0 ∧
    (dosed 0 []).flow.q = 0 ∧ 0 < (dosed 1250 []).flow.q ∧
    (delivered (dosed 1250 []) = 244 ∧ ¬ (244 + 5 ≤ 248 ∨ 248 + 5 ≤ 244)) ∧
    (delivered (dosed 1250 [⟨40000000, 249, false⟩]) = 244 ∧ (244 + 5 ≤ 249)) ∧
    (delivered (dosed 1250 (List.replicate 7 ⟨39999999, 239, false⟩)) = 244 ∧ (239 + 5 ≤ 244)) ∧
    (delivered (dosed 1250 (List.replicate 8 ⟨39999999, 239, false⟩)) = 244 ∧ (40000000 ≠ 39999999)) ∧
    pruneHistory 40000000 2700000 [⟨36000000, 230, false⟩, ⟨37300000, 244, false⟩] = [⟨37300000, 244, false⟩] ∧
    pruneHistory 40000000 2700000 [⟨36000000, 230, false⟩, ⟨37300001, 244, false⟩] =
      [⟨36000000, 230, false⟩, ⟨37300001, 244, false⟩] := by
  and_intros <;> decide +kernel

/-- In RUN and in JOIN, in DOSING and in STANDBY, above Mmax and not, the demand above the grant and not. -/
theorem witness_ADoseUpdateAsksForAGrant : (storm.service = some demoImage ∧ (demoImage.channel 0).kind ≠ .none ∧
      (storm.channel 0).dose.timer = some 0) ∧
    (storm.stn = .run ∧ ({ storm with stn := .join } : State).stn ≠ .run) ∧
    ((storm.channel 0).state = .dosing ∧ (idleDemo.channel 0).state ≠ .dosing ∧
      (idleDemo.channel 0).dose.timer = some 0) ∧
    ((after (.doseUpdate 0) storm).share.get 2 = ⟨76250, 55000⟩ ∧
      (after (.doseUpdate 1) (dosed 1250 [])).share.get 0 = ⟨3062, 3062⟩) := by
  and_intros <;> decide +kernel

/-- The issue test passes, and does not with the interval timer running. -/
theorem witness_ADoseUpdateFillsTheCredit : storm.service = some demoImage ∧ (demoImage.channel 0).kind ≠ .none ∧
    (storm.channel 0).dose.timer = some 0 ∧ (demoImage.channel 0).strokeMass = 26000 ∧
    ((after (.doseUpdate 0) storm).channel 0).feeder.ac = 55000 - 26000 ∧
    (due (stroking 0 (some 100) [] 0)).service = some demoImage ∧
    ((due (stroking 0 (some 100) [] 0)).channel 0).feeder.timer ≠ none ∧
    ((due (stroking 0 (some 100) [] 0)).channel 0).dose.timer = some 0 := by
  and_intros <;> decide +kernel

/-- No demand; a total demand equal to the capacity, and one unit above it. -/
theorem witness_TheWaterFillIsFair : (⟨5, 4, 0⟩ : Participant).demand = 0 ∧
    totalDemand [⟨5, 4, 40⟩, ⟨9, 1, 60⟩] ≤ 100 ∧ (⟨5, 4, 41⟩ : Participant).demand ≠ 0 ∧
    100 < totalDemand [⟨5, 4, 41⟩, ⟨9, 1, 60⟩] ∧
    (([⟨5, 4, 41⟩, ⟨9, 1, 60⟩] : List Participant).map Participant.number).Nodup ∧
    (∀ p ∈ ([⟨5, 4, 41⟩, ⟨9, 1, 60⟩] : List Participant), 1 ≤ p.weight) ∧
    (orderParticipants [⟨5, 4, 41⟩, ⟨9, 1, 60⟩] = [⟨5, 4, 41⟩] ++ ⟨9, 1, 60⟩ :: [] ∧ 41 ≤ 100 * 4 / 5 ∧
      (100 - 41) * 1 / (5 - 4) < 60) := by
  and_intros <;> decide +kernel

theorem witness_SharesStayWithinTheCapacity : storm.service = some demoImage ∧ demoImage.valid = true ∧
    ({ storm with stn := .join } : State).service = some demoImage ∧ ({ storm with stn := .join } : State).stn = .join :=
  ⟨by decide +kernel, test_image_is_valid.1, by decide +kernel, rfl⟩

theorem witness_TheOrderIsTheSameEverywhere :
    (∀ p ∈ ([⟨8, 6, 60⟩, ⟨5, 3, 30⟩, ⟨3, 1, 10⟩] : List Participant), 1 ≤ p.weight) ∧
    (([⟨8, 6, 60⟩, ⟨5, 3, 30⟩, ⟨3, 1, 10⟩] : List Participant).map Participant.number).Nodup ∧
    ([⟨8, 6, 60⟩, ⟨5, 3, 30⟩, ⟨3, 1, 10⟩] : List Participant).Perm [⟨3, 1, 10⟩, ⟨5, 3, 30⟩, ⟨8, 6, 60⟩] := by
  and_intros <;> decide +kernel

/-- A credit of one stroke and one unit less; seven strokes outstanding and eight. -/
theorem witness_TheStrokeTimerIssuesOrStops : (stroking 26000 (some 0) [] 0).service = some demoImage ∧
    (demoImage.channel 0).kind ≠ .none ∧ ((stroking 26000 (some 0) [] 0).channel 0).feeder.timer = some 0 ∧
    (((stroking 26000 (some 0) (List.replicate 7 ⟨.pending, 9⟩) 0).channel 0).state = .dosing ∧
      (demoImage.channel 0).strokeMass ≤ 26000 ∧ (List.replicate 7 (⟨.pending, 9⟩ : Stroke)).length < 8) ∧
    ¬ (demoImage.channel 0).strokeMass ≤ 25999 ∧ ¬ (List.replicate 8 (⟨.pending, 9⟩ : Stroke)).length < 8 := by
  and_intros <;> decide +kernel

theorem witness_AConfirmMatchesTheOldestStroke : (stroking 0 none [⟨.pending, 90⟩] 2).service = some demoImage ∧
    (demoImage.channel 0).kind ≠ .none ∧
    ((stroking 0 none [⟨.pending, 90⟩] 2).channel 0).feeder.strokes = ⟨.pending, 90⟩ :: [] ∧
    ((stroking 0 none [⟨.missed, 0⟩, ⟨.pending, 90⟩] 2).channel 0).feeder.strokes = ⟨.missed, 0⟩ :: [⟨.pending, 90⟩] := by
  and_intros <;> decide +kernel

/-- RUN-ON in CLEAR with a run-on time of 5 s and of 0 s, in ALERT, in ACTIVE; in ALERT on a LOCKED channel. -/
theorem witness_AnUnexpectedConfirmIsRunOn :
    (demo.service = some demoImage ∧ (demoImage.channel 0).kind ≠ .none ∧ (demo.channel 0).feeder.strokes = [] ∧
      (demo.channel 0).sup.runOn = .clear ∧ 0 < (demoImage.channel 0).runOnTime) ∧
    ((demo.channel 3).sup.runOn = .clear ∧ (demoImage.channel 3).runOnTime = 0 ∧ (demoImage.channel 3).kind ≠ .none) ∧
    demo.StatesDerived ∧
    (unasked.service = some demoImage ∧ (unasked.channel 0).sup.runOn = .alert ∧ (unasked.channel 0).feeder.strokes = []) ∧
    unasked.StatesDerived ∧
    ((after (.confirm 0) unasked).service = some demoImage ∧ ((after (.confirm 0) unasked).channel 0).sup.runOn = .active ∧
      ((after (.confirm 0) unasked).channel 0).feeder.strokes = []) ∧ (after (.confirm 0) unasked).StatesDerived ∧
    (((after (.confirm 1) lockedDemo).channel 1).sup.runOn = .alert ∧
      ((after (.confirm 1) lockedDemo).channel 1).state = .locked) ∧ (after (.confirm 1) lockedDemo).StatesDerived :=
  ⟨by decide +kernel, by decide +kernel, demo_derived, by decide +kernel, unasked_derived, by decide +kernel,
    derived_of _ (by decide +kernel) (by decide +kernel), by decide +kernel,
    derived_of _ (by decide +kernel) (by decide +kernel)⟩

/-- The miss below the limit, at the limit, above it; none and one MISSED before; the front MISSED. -/
theorem witness_DeadlinesCountAndRemove :
    ((stroking 0 none [⟨.pending, 0⟩] 1).service = some demoImage ∧ (demoImage.channel 0).kind ≠ .none ∧
      ((stroking 0 none [⟨.pending, 0⟩] 1).channel 0).feeder.strokes = [] ++ ⟨.pending, 0⟩ :: [] ∧
      min 255 (1 + 1) ≠ (demoImage.channel 0).missLimit ∧ min 255 (3 + 1) ≠ (demoImage.channel 0).missLimit) ∧
    (((stroking 0 none [⟨.missed, 9⟩, ⟨.pending, 0⟩] 2).channel 0).feeder.strokes =
        [⟨.missed, 9⟩] ++ ⟨.pending, 0⟩ :: [] ∧ (∀ e ∈ [(⟨.missed, 9⟩ : Stroke)], e.state = .missed) ∧
      min 255 (2 + 1) = (demoImage.channel 0).missLimit) ∧
    (stroking 0 none [⟨.missed, 9⟩, ⟨.pending, 0⟩] 2).StatesDerived ∧
    ((stroking 0 none [⟨.missed, 0⟩, ⟨.pending, 9⟩] 2).channel 0).feeder.strokes = ⟨.missed, 0⟩ :: [⟨.pending, 9⟩] :=
  ⟨by decide +kernel, by decide +kernel, derived_of _ (by decide +kernel) (by decide +kernel), by decide +kernel⟩

/-- Channel 1 with LOW RESIDUAL in ALERT. -/
def lowering : State := demo.onChannel 1 fun c => { c with sup := { c.sup with low := .alert, tL := some 0 } }

/-- LOW RESIDUAL, HIGH RESIDUAL, HIGH-HIGH RESIDUAL; HIGH RESIDUAL on a LOCKED channel, HIGH-HIGH RESIDUAL on one. -/
theorem witness_AnAlertExpiryRaisesItsCondition : (lowering.service = some demoImage ∧
      (demoImage.channel 1).kind ≠ .none ∧ (lowering.channel 1).sup.condition .low = .alert ∧
      (lowering.channel 1).sup.alertTimer .low = some 0) ∧
    lowering.StatesDerived ∧
    (rising.service = some demoImage ∧ (rising.channel 1).sup.condition .high = .alert ∧
      (rising.channel 1).sup.alertTimer .high = some 0 ∧ (rising.channel 1).sup.condition .highHigh = .alert ∧
      (rising.channel 1).sup.alertTimer .highHigh = some 0 ∧ (rising.channel 1).state ≠ .locked) ∧
    rising.StatesDerived ∧
    (lockedDemo.service = some demoImage ∧ (lockedDemo.channel 1).state = .locked ∧
      (lockedDemo.channel 1).sup.condition .high = .alert ∧ (lockedDemo.channel 1).sup.alertTimer .high = some 0) ∧ lockedDemo.StatesDerived ∧
    (((after (.confirm 1) (after (.confirm 1) rising)).channel 1).state = .locked ∧
      ((after (.confirm 1) (after (.confirm 1) rising)).channel 1).sup.alertTimer .highHigh = some 0 ∧
      ((after (.confirm 1) (after (.confirm 1) rising)).channel 1).sup.condition .highHigh = .alert) ∧
    (after (.confirm 1) (after (.confirm 1) rising)).StatesDerived :=
  ⟨by decide +kernel, derived_of _ (by decide +kernel) (by decide +kernel), by decide +kernel, rising_derived,
    by decide +kernel, lockedDemo_derived, by decide +kernel, derived_of _ (by decide +kernel) (by decide +kernel)⟩

theorem witness_RunOnAndQuietTimersRunOut : unasked.service = some demoImage ∧ (demoImage.channel 0).kind ≠ .none ∧
    unasked.StatesDerived ∧ ((unasked.channel 0).sup.runOn = .alert ∧
      (unasked.channel 0).sup.runOnTimer = some 0 ∧ (unasked.channel 0).sup.quietTimer = some 0) :=
  ⟨by decide +kernel, by decide, unasked_derived, by decide +kernel⟩

/-- Channel 0 with a pipeline of a length. -/
def piped (n : Nat) : State :=
  demo.onChannel 0 fun c => { c with dose := { c.dose with pipeline := List.replicate n ⟨42000000, 300⟩ } }

/-- The station with its chlorine channel 1 mapped to the turbidity analyzer. -/
def crossedImage : Image :=
  { demoImage with channels := demoImage.channels.set 1 { channel1 with analyzer := some 4 } }

/-- The part in service with that image. -/
def crossed : State := { demo with config := some crossedImage }

/-- The values 0 and 10,000; 15 and 16 entries; a coagulant channel of the analyzer, a chlorine one, and others. -/
theorem witness_AGoodTurbidityEntersThePipeline :
    ((piped 15).service = some demoImage ∧ (piped 16).service = some demoImage) ∧
    ((sample 4 2 0 10000).start = 0xA5 ∧ (sample 4 2 0 10000).analyzer.toNat = (4 : Fin 8).val ∧
      (sample 4 2 0 10000).measurand = 2 ∧ (sample 4 2 0 10000).quality = 0) ∧
    ((sample 4 2 0 10000).value.toNat ≤ 10000 ∧ (sample 4 2 0 0).value.toNat ≤ 10000) ∧
    (((messageBytes (sample 4 2 0 10000)).map BitVec.toNat).sum % 256 = 0 ∧
      ((messageBytes (sample 4 2 0 0)).map BitVec.toNat).sum % 256 = 0) ∧
    ((demoImage.channel 0).analyzer = some 4 ∧ (demoImage.channel 1).analyzer ≠ some 4) ∧
    (((piped 15).channel 0).dose.pipeline.length < 16 ∧ 16 ≤ ((piped 16).channel 0).dose.pipeline.length) ∧
    (crossed.service = some crossedImage ∧ (crossedImage.channel 1).kind = .chlorine ∧
      (crossedImage.channel 1).analyzer = some 4) ∧
    (piped 16).StatesDerived ∧ crossed.StatesDerived := by
  refine ⟨?_, ?_, ?_, ?_, ?_, ?_, ?_, derived_of _ (by decide +kernel) (by decide +kernel), ?_⟩
  on_goal 8 => intro im h; obtain rfl := Option.some.inj h; decide +kernel
  all_goals and_intros <;> decide +kernel

/-- Channel 1 with a dose history, at a volume. -/
def covered (v : Nat) (history : List HistEntry) : State :=
  ({ demo with flow := flowAt v } : State).onChannel 1 fun c => { c with dose := { c.dose with history := history } }

theorem covered_derived : (covered 2700100 [⟨50, 240, false⟩, ⟨100, 244, false⟩, ⟨101, 260, false⟩]).StatesDerived := by
  intro im h
  obtain rfl := Option.some.inj h
  decide

/-- The value 1,000; outside DOSING; V one litre below the lag volume; a mark one litre too high; a merged entry; a
mark exactly at V less the lag; a derived state whose history is pruned by one entry. -/
theorem witness_AGoodResidualCorrectsTheEstimate :
    ((sample 2 1 0 1000).start = 0xA5 ∧ (sample 2 1 0 1000).analyzer.toNat = (2 : Fin 8).val ∧
      (sample 2 1 0 1000).measurand = 1 ∧ (sample 2 1 0 1000).quality = 0 ∧ (sample 2 1 0 1000).value.toNat ≤ 1000) ∧
    ((messageBytes (sample 2 1 0 1000)).map BitVec.toNat).sum % 256 = 0 ∧
    ((demoImage.channel 1).kind = .chlorine ∧ (demoImage.channel 1).analyzer = some 2 ∧
      (demoImage.channel 1).volume = 2700000) ∧
    (idleDemo.service = some demoImage ∧ (idleDemo.channel 1).state ≠ .dosing) ∧
    ((covered 2699999 [⟨0, 244, false⟩]).service = some demoImage ∧
      ((covered 2699999 [⟨0, 244, false⟩]).channel 1).state = .dosing ∧ ¬ (2700000 ≤ 2699999)) ∧
    ([(⟨101, 244, false⟩ : HistEntry)].filter fun e => decide (e.mark ≤ 2700100 - 2700000)) = [] ∧
    ([(⟨100, 244, true⟩ : HistEntry)].filter fun e => decide (e.mark ≤ 2700100 - 2700000)) =
      [] ++ [(⟨100, 244, true⟩ : HistEntry)] ∧
    ((covered 2700100 [⟨100, 244, false⟩, ⟨101, 260, false⟩]).channel 1).dose.history.filter
      (fun e => decide (e.mark ≤ (covered 2700100 [⟨100, 244, false⟩]).flow.v - 2700000)) =
      [] ++ [⟨100, 244, false⟩] ∧
    ((covered 2700100 [⟨50, 240, false⟩, ⟨100, 244, false⟩, ⟨101, 260, false⟩]).StatesDerived ∧
      ((covered 2700100 [⟨50, 240, false⟩, ⟨100, 244, false⟩, ⟨101, 260, false⟩]).channel 1).state = .dosing ∧
      (2700000 ≤ 2700100 ∧ 100 ≤ 2700100 - 2700000 ∧ ¬ (101 ≤ 2700100 - 2700000))) :=
  ⟨by decide +kernel, by decide +kernel, by decide +kernel, by decide +kernel, by decide +kernel, by decide +kernel,
    by decide +kernel, by decide +kernel, covered_derived, by decide +kernel, by decide +kernel⟩

/-- Channel 1 with its three residual conditions at a state. -/
def judged (x : Cond) : State := demo.onChannel 1 fun c =>
  { c with sup := { c.sup with low := x, high := x, highHigh := x, tL := some 9, tH := some 9, tHH := some 9 } }

/-- The station with alert times of 0 s on channel 1. -/
def untimed : State :=
  { demo with
    config := some { demoImage with channels := demoImage.channels.set 1 { channel1 with tL := 0, tH := 0, tHH := 0 } } }

/-- GOOD and SUSPECT; each level and one unit beyond it, values above the range, in each state of the conditions;
alert times of 0 s; a derived state. -/
theorem witness_AResidualJudgesTheConditions :
    ((judged .clear).service = some demoImage ∧ (judged .alert).service = some demoImage ∧
      (judged .active).service = some demoImage) ∧
    ([0, 20, 21, 39, 40, 250, 251, 299, 300, 449, 450, 1000, 1001, 65535].all fun n =>
      [0, 1].all fun q =>
        let m := sample 2 1 q (BitVec.ofNat 16 n)
        m.start == 0xA5 && m.analyzer.toNat == 2 && m.measurand == 1 && m.quality == q && m.value.toNat == n &&
          ((messageBytes m).map BitVec.toNat).sum % 256 == 0) = true ∧
    ((demoImage.channel 1).kind = .chlorine ∧ (demoImage.channel 1).analyzer = some 2) ∧
    ((channel1.lowLimit, channel1.lowRecovery, channel1.highRecovery, channel1.highLimit, channel1.hhLimit) =
      (20, 40, 250, 300, 450) ∧ 0 < channel1.tL ∧ 0 < channel1.tH ∧ 0 < channel1.tHH) ∧
    (((judged .clear).channel 1).sup.low = .clear ∧ ((judged .alert).channel 1).sup.high = .alert ∧
      ((judged .active).channel 1).sup.highHigh = .active) ∧
    (untimed.service = untimed.config ∧
      (untimed.config.map fun im => ((im.channel 1).tL, (im.channel 1).tH, (im.channel 1).tHH)) = some (0, 0, 0)) ∧
    (judged .alert).StatesDerived := by
  refine ⟨?_, ?_, ?_, ?_, ?_, ?_, derived_of _ (by decide +kernel) (by decide +kernel)⟩
  all_goals and_intros <;> decide +kernel

/-- Each way of not being well formed, and FAULT quality; no message, one byte, five, six. -/
theorem witness_BytesMakeMessages : demo.service = some demoImage ∧
    ({ sample 4 2 0 0 with start := 0xA4 } : SampleMessage).start ≠ 0xA5 ∧
    ((sample 4 3 0 0).measurand ≠ 1 ∧ (sample 4 3 0 0).measurand ≠ 2) ∧
    ((sample 4 2 2 0).quality ≠ 0 ∧ (sample 4 2 2 0).quality ≠ 1 ∧ (sample 7 2 2 0).analyzer.toNat = (7 : Fin 8).val) ∧
    ((messageBytes { sample 4 2 0 0 with check := 0 }).map BitVec.toNat).sum % 256 ≠ 0 ∧
    demo.intake.buffer = [] ∧ ([0xA5, 0, 0, 0, 0] : List Byte).length < 6 ∧
    ([0xA5, 4, 2, 0, 0, 0] : List Byte) ++ [(sample 4 2 0 0).check] = messageBytes (sample 4 2 0 0) ∧
    7 < (8#8).toNat ∧
    ({ due demo with intake := { (due demo).intake with buffer := [0xA5] } } : State).service = some demoImage ∧
    ({ due demo with intake := { (due demo).intake with buffer := [0xA5] } } : State).intake.buffer ≠ [] ∧
    ({ due demo with intake := { (due demo).intake with buffer := [0xA5] } } : State).intake.gapTimer = some 0 ∧
    ([0xA5, 4] : List Byte)[1]? = (demoImage.channel 0).analyzer.map fun a => BitVec.ofNat 8 a.val := by
  and_intros <;> decide +kernel

/-- An analyzer of one channel, and one of none; ANALYZER STALE not ACTIVE before; an expiry that a sample of the same
moment has come before. -/
theorem witness_AStaleAnalyzerIsReported : (due demo).service = some demoImage ∧ (due demo).StatesDerived ∧
    (((due demo).intake.records.get 2).timer = some 0 ∧ demoImage.mapped 2 = [1] ∧
      ((due demo).channel 1).sup.stale ≠ .active) ∧
    (((due demo).intake.records.get 7).timer = some 0 ∧ demoImage.mapped 7 = []) ∧
    ([1] : List (Fin 4)).Pairwise (fun i j => i < j) ∧
    (∀ k, k ∈ ([1] : List (Fin 4)) ↔ (demoImage.channel k).kind ≠ .none ∧ (demoImage.channel k).analyzer = some 2) ∧
    ((after (.analyzerMessage (sample 2 1 0 140)) (due demo)).intake.records.get 2).timer ≠ some 0 :=
  ⟨by decide +kernel, derived_of _ (by decide +kernel) (by decide +kernel), by decide +kernel, by decide +kernel,
    by decide +kernel, by decide +kernel, by decide +kernel⟩

/-- A station in a state, with counts of its Peer View, at its announce expiry. -/
def station (x : StationState) (join silence clean : Nat) (seen : Bool) : State :=
  { demo with
    stn := x
    peer :=
      { demo.peer with
        joinCount := join, silence := silence, conflictClear := clean, conflictSeen := seen, timer := some 0 } }

/-- JOIN before its second expiry and at it, silent and not; RUN at the limit; ISOLATED; SILENT with a conflict frame,
without one, and at the fourth clean expiry. -/
theorem witness_AnAnnounceExpiryAgesStepsAndAnnounces :
    ([station .join 0 0 0 false, station .join 1 1 0 false, station .join 1 2 0 false, station .run 0 1 0 false,
      station .run 0 2 0 false, station .isolated 0 3 0 false, station .silent 0 0 2 true, station .silent 0 0 2 false,
      station .silent 0 0 3 false].all fun s => s.service == some demoImage && s.peer.timer == some 0) = true ∧
    ([station .join 0 0 0 false, station .join 1 1 0 false, station .join 1 2 0 false, station .run 0 1 0 false,
      station .run 0 2 0 false, station .isolated 0 3 0 false, station .silent 0 0 2 true,
      station .silent 0 0 2 false].map fun s => (after .announceExpiry s).stn) =
    [.join, .run, .isolated, .run, .isolated, .isolated, .silent, .silent] ∧
    (let paired := after .conflictFrame (station .run 0 2 0 false)
    paired.service = some demoImage ∧ paired.peer.timer = some 0 ∧ paired.stn = .silent ∧
      paired.peer.conflictSeen = true ∧ paired.peer.silencedAtExpiry = true) := by
  and_intros <;> decide +kernel

/-- A station whose group 2 holds two slots. -/
def slots (a b : Option CapacitySlot) : State :=
  { demo with peer := { demo.peer with capacity := demo.peer.capacity.set 2 ⟨a, b⟩ } }

/-- Sources 31 and 32, groups 3 and 4, a sorted table; the source in either slot, an empty slot, equal and unequal ages. -/
theorem witness_AnnouncementsEnterTheTables : ({ demo with peer := peers } : State).service = some demoImage ∧
    ({ demo with peer := peers } : State).link.listens = true ∧ (slots none none).link.listens = true ∧
    ((31#8).toNat ≠ demoImage.station.number ∧ (31#8).toNat ≤ 31 ∧ 31 < (32#8).toNat) ∧
    peers.table.Pairwise (fun a b => a.number < b.number) ∧ 3 < (4#8).toNat ∧ (3 : Fin 4).val = (3#8).toNat ∧
    ((slots (some ⟨20, 9, 5⟩) (some ⟨21, 9, 5⟩)).service = some demoImage ∧ (20#8).toNat ≤ 31) ∧
    ((slots (some ⟨20, 9, 5⟩) (some ⟨21, 9, 5⟩)).peer.capacity.get 2).slot0 = some ⟨20, 9, 5⟩ ∧
    ((slots (some ⟨21, 9, 4⟩) (some ⟨20, 9, 5⟩)).peer.capacity.get 2).slot1 = some ⟨20, 9, 5⟩ ∧
    ((slots none none).peer.capacity.get 2).slot0 = none ∧
    (((slots (some ⟨21, 9, 4⟩) none).peer.capacity.get 2).slot0 = some ⟨21, 9, 4⟩ ∧
      ((slots (some ⟨21, 9, 4⟩) none).peer.capacity.get 2).slot1 = none) ∧
    (((slots (some ⟨21, 9, 4⟩) (some ⟨22, 9, 5⟩)).peer.capacity.get 2).slot1 = some ⟨22, 9, 5⟩ ∧ 4 < 5 ∧ 21 ≠ 20 ∧ 22 ≠ 20) := by
  and_intros <;> decide +kernel

theorem witness_FramesAreHeardOrRejected : demo.service = some demoImage ∧ (9#8).toNat ≠ demoImage.station.number ∧
    demo.stn ≠ .isolated ∧ (station .isolated 0 3 0 false).stn = .isolated ∧
    (station .isolated 0 3 0 false).service = some demoImage ∧ demo.link.listens = true ∧
    ([3, 30, 9, 5, 89] : List Byte).getD 4 0 = 89 ∧ ([1, 9, 3] : List Byte).length < 0 + 7 ∧
    (crc16 ([3, 30, 9, 5, 2, 7, 0] : List Byte)).toNat ≠ 256 * 0 + 0 ∧
    (validFrame (withCrc [3, 30, 9, 5, 3, 7, 0, 0]) = false ∧ validFrame (withCrc [3, 30, 9, 5, 2, 7, 0]) = true) ∧
    (driving 0).link.tx ≠ .idle ∧ (sentFrame (.freeze 30 5 7 0)).isSome = true ∧
    ((after .frameCollided (driving 0)).link.line = .own ∧ (after .frameCompleted (driving 0)).link.line = .own) := by
  and_intros <;> decide +kernel

theorem witness_AConflictFrameSilencesTheStation : demo.service = some demoImage ∧ demo.stn = .run ∧
    demo.link.listens = true ∧ (sentFrame (.freeze 5 9 7 0)).map (fun f => f.2.1) = some 5 ∧
    (sentFrame (.demandFrame 5 255 1 1 0 ⟨0, 0, 0, 0⟩)).map (fun f => f.2.1) = some 5 ∧
    (station .silent 0 0 2 true).service = some demoImage ∧ (station .silent 0 0 2 true).stn = .silent ∧
    (station .isolated 0 3 0 false).service = some demoImage ∧ (5#8).toNat = demoImage.station.number := by
  and_intros <;> decide +kernel

/-- What the statements on requests ask of the state, the source and the destination, to the own number and to 255,
in the three states that answer. -/
theorem witness_request : (demo.service = some demoImage ∧ demo.stn.transmits = true ∧ demo.link.listens = true) ∧
    ((station .join 0 0 0 false).stn.transmits = true ∧ (station .isolated 0 3 0 false).stn.transmits = true) ∧
    ((30#8).toNat ≠ demoImage.station.number ∧ (5#8).toNat = demoImage.station.number) := by
  and_intros <;> decide +kernel

/-- Values at the top of each range and one above; immediate and deferred, a value and "revert". -/
theorem witness_ATargetIsSetOrStaged : (demo.service = some demoImage ∧ demo.stn.transmits = true ∧ demo.link.listens = true ∧
      (30#8).toNat ≠ demoImage.station.number ∧ (5#8).toNat = demoImage.station.number) ∧
    ((0#8).toNat = (0 : Fin 4).val ∧ (demoImage.channel 0).kind ≠ .none ∧ (3#8).toNat = (3 : Fin 4).val ∧
      (demoImage.channel 3).kind ≠ .none) ∧
    (¬ 20000 < (20000#16).toNat ∧ 20000 < (20001#16).toNat ∧ ¬ 1000 < (1000#16).toNat ∧ 1000 < (1001#16).toNat) ∧
    ((1#8).getLsbD 0 = true ∧ (1#8).getLsbD 1 = false ∧ (2#8).getLsbD 0 = false ∧ (2#8).getLsbD 1 = true) := by
  and_intros <;> decide +kernel

/-- Indexes 7 and 8; "release"; immediate and deferred. -/
theorem witness_AProfileIsSetOrStaged : (demo.service = some demoImage ∧ demo.stn.transmits = true ∧ demo.link.listens = true ∧
      (30#8).toNat ≠ demoImage.station.number ∧ (1#8).toNat = (1 : Fin 4).val ∧ (demoImage.channel 1).kind ≠ .none) ∧
    ((0#8).getLsbD 1 = false ∧ 8 ≤ (8#8).toNat ∧ (7#8).toNat = (7 : Fin 8).val) ∧
    ((1#8).getLsbD 0 = true ∧ (2#8).getLsbD 1 = true ∧ (2#8).getLsbD 0 = false) ∧
    ((3 : Fin 8) = (demo.channel 1).dose.activeIndex ∧ (7 : Fin 8) ≠ (demo.channel 1).dose.activeIndex) := by
  and_intros <;> decide +kernel

/-- Frozen and not; the values 0, 1, the native ceiling and one above it. -/
theorem witness_ACeilingIsSetUntilFrozen : (demo.service = some demoImage ∧ demo.stn.transmits = true ∧ demo.link.listens = true ∧
      (30#8).toNat ≠ demoImage.station.number ∧ (0#8).toNat = (0 : Fin 4).val ∧ (demoImage.channel 0).kind ≠ .none) ∧
    ((demo.channel 0).dose.freeze = false ∧ ((after (.freeze 30 5 7 0) demo).channel 0).dose.freeze = true ∧
      (after (.freeze 30 5 7 0) demo).service = some demoImage) ∧
    (1#16 ≠ 0 ∧ ¬ (demoImage.channel 0).nativeCeiling < (8000#16).toNat ∧
      (demoImage.channel 0).nativeCeiling < (8001#16).toNat) := by
  and_intros <;> decide +kernel

/-- Channel 0 with a profile item and a target item, channel 1 with "release" and "revert", channel 3 with none. -/
def staged : State :=
  (({ demo with stn := .silent } : State).onChannel 0 fun c =>
    { c with dose := { c.dose with pendingProfile := some (.index 5), pendingTarget := some (.value 3200) } }).onChannel 1
    fun c => { c with dose := { c.dose with pendingProfile := some .release, pendingTarget := some .revert } }

theorem witness_ACommitAppliesWhatIsStaged : staged.service = some demoImage ∧ staged.stn = .silent ∧ staged.link.listens = true ∧
    (30#8).toNat ≠ demoImage.station.number ∧ (5#8).toNat = demoImage.station.number ∧
    (staged.channel 0).dose.pendingProfile = some (.index 5) ∧ (staged.channel 1).dose.pendingTarget = some .revert ∧
    (staged.channel 3).dose.pendingProfile = none ∧ (demoImage.channel 2).kind = .none := by
  and_intros <;> decide +kernel

/-- Channel 1 LOCKED with a last residual at the level of HIGH-HIGH RESIDUAL, and one below it. -/
def lockedAt (r : Nat) : State := lockedDemo.onChannel 1 fun c => { c with sup := { c.sup with lastResidual := some r } }

/-- DOSING, FAULTED, LOCKED with its cause present and with it gone, LOCKED by RUN-ON with the quiet timer running. -/
theorem witness_AFaultIsClearedAndALockReleased : (demo.service = some demoImage ∧ demo.stn.transmits = true ∧
      demo.link.listens = true ∧ faultedDemo.link.listens = true ∧ (lockedAt 450).link.listens = true ∧ (lockedAt 449).link.listens = true ∧
      (demo.channel 0).state ≠ .faulted ∧ (demo.channel 0).state ≠ .locked) ∧ demo.StatesDerived ∧
    (faultedDemo.service = some demoImage ∧ faultedDemo.stn.transmits = true ∧ (faultedDemo.channel 0).state = .faulted) ∧
    faultedDemo.StatesDerived ∧
    ((lockedAt 450).service = some demoImage ∧ ((lockedAt 450).channel 1).state = .locked ∧
      ((lockedAt 450).channel 1).sup.highHigh = .active ∧ ¬ 450 < (demoImage.channel 1).hhLimit) ∧
    (lockedAt 450).StatesDerived ∧
    (((lockedAt 449).channel 1).state = .locked ∧ ((lockedAt 449).channel 1).sup.lastResidual = some 449 ∧
      449 < (demoImage.channel 1).hhLimit ∧ ((lockedAt 449).channel 1).sup.stale = .clear ∧
      ((lockedAt 449).channel 1).sup.runOn ≠ .active) ∧
    (lockedAt 449).StatesDerived ∧
    (((after (.confirm 0) unasked).channel 0).state = .locked ∧
      ((after (.confirm 0) unasked).channel 0).sup.runOn = .active ∧
      ((after (.confirm 0) unasked).channel 0).sup.quietTimer ≠ none) :=
  ⟨by decide +kernel, demo_derived, by decide +kernel, faultedDemo_derived, by decide +kernel,
    derived_of _ (by decide +kernel) (by decide +kernel), by decide +kernel,
    derived_of _ (by decide +kernel) (by decide +kernel), by decide +kernel⟩

/-- A station with some records and some frames waiting. -/
def packed (records frames : Nat) : State :=
  { demo with
    recs := { demo.recs with queue := List.replicate records (record 1) }
    link := { demo.link with queue := List.replicate frames (answerEntry 1) } }

/-- Seven frames and eight; two records and three at a packing count of 3; no record; SILENT. -/
theorem witness_RecordsArePackedIntoFreeEntries : (packed 4 0).service = some demoImage ∧
    ((30#8).toNat ≠ demoImage.station.number ∧ (packed 4 0).stn.transmits = true ∧ (packed 4 0).link.listens = true) ∧
    ((packed 2 0).recs.queue.length < demoImage.station.packingCount ∧ (packed 0 0).recs.queue = [] ∧
      8 ≤ (packed 3 8).link.queue.length ∧ ({ packed 3 0 with stn := .silent } : State).stn = .silent) ∧
    ((packed 3 7).service = some demoImage ∧ (packed 3 7).stn ≠ .silent ∧ 1 ≤ demoImage.station.packingCount ∧
      min (8 - (packed 3 7).link.queue.length) ((packed 3 7).recs.queue.length / 3) = 1) := by
  and_intros <;> decide +kernel

/-- Channels 0, 2 (of kind NONE) and 4; parameters 0, 1 and 2; first stations 31 and 32; subjects 0 to 6; the items of
the pending slot. -/
theorem witness_AQueryIsAnswered : (demo.service = some demoImage ∧ demo.stn.transmits = true ∧ demo.link.listens = true ∧
      (30#8).toNat ≠ demoImage.station.number ∧ (5#8).toNat = demoImage.station.number) ∧
    ((0#8).toNat = (0 : Fin 4).val ∧ (demoImage.channel 0).kind = .coagulant ∧ (demoImage.channel 1).kind = .chlorine) ∧
    ((∀ k : Fin 4, (4#8).toNat = k.val → (demoImage.channel k).kind = .none) ∧
      (∀ k : Fin 4, (2#8).toNat = k.val → (demoImage.channel k).kind = .none)) ∧
    ((2#8) ≠ 0 ∧ (2#8) ≠ 1 ∧ (31#8).toNat ≤ 31 ∧ 31 < (32#8).toNat) ∧
    ((6#8) ≠ 1 ∧ (6#8) ≠ 2 ∧ (6#8) ≠ 3 ∧ (6#8) ≠ 4 ∧ (6#8) ≠ 5) ∧
    ((channel3.analyzer = none ∧ channel0.analyzer = some 4) ∧
      (({ staged with stn := .run } : State).service = some demoImage ∧
        (staged.channel 0).dose.pendingTarget = some (.value 3200) ∧
        (staged.channel 1).dose.pendingProfile = some .release)) := by
  and_intros <;> decide +kernel

/-- Channel 4 and channel 2 of kind NONE; a request for another station; a request in SILENT. -/
theorem witness_SomeRequestsAreNotActedOn : (demo.service = some demoImage ∧ demo.stn.transmits = true ∧ demo.link.listens = true ∧
      (30#8).toNat ≠ demoImage.station.number ∧ (5#8).toNat = demoImage.station.number) ∧
    ((∀ k : Fin 4, (4#8).toNat = k.val → (demoImage.channel k).kind = .none) ∧
      (∀ k : Fin 4, (2#8).toNat = k.val → (demoImage.channel k).kind = .none)) ∧
    (sentFrame (.freeze 30 6 7 0) = some (9, 30, 6, [7, 0]) ∧ (6#8).toNat ≠ demoImage.station.number ∧ 6#8 ≠ 255) ∧
    (sentFrame (.flush 30 255) = some (14, 30, 255, []) ∧ (station .silent 0 0 2 true).stn = .silent ∧
      (station .silent 0 0 2 true).link.listens = true) := by
  and_intros <;> decide +kernel

/-- A station with the announce slot full or empty and a queue. -/
def slotted (slot : Option Announcement) (queue : List Entry) : State :=
  { demo with link := { demo.link with slot := slot, queue := queue } }

/-- A station with a queue before a line known to be idle. -/
def onIdleLine (queue : List Entry) : State :=
  { demo with link := { demo.link with queue := queue, line := .idle } }

/-- The DEMAND of a first announcement. -/
def announced : Announcement := ⟨⟨4, .run, false, ⟨0, 0, 0, 0⟩⟩, 0⟩

/-- SILENT; nothing waiting; a frame waiting before a line known to be idle, and one known to be driven; the oldest of two ANSWER frames behind a RECORDS frame; an ALARM before a DEMAND; a
DEMAND before an ANSWER, and alone. -/
theorem witness_AnAttemptTakesTheFirstFrame : (demo.service = some demoImage ∧ demo.link.tx = .idle ∧ demo.stn ≠ .silent) ∧
    ((station .silent 0 0 2 true).service = some demoImage ∧ (station .silent 0 0 2 true).link.tx = .idle ∧
      (station .silent 0 0 2 true).stn = .silent) ∧
    (demo.link.slot = none ∧ ∀ x ∈ demo.link.queue, x.inAttempt = true) ∧
    (([recordsEntry 1 false, answerEntry 1, answerEntry 2] = [recordsEntry 1 false] ++ answerEntry 1 :: [answerEntry 2]) ∧
      (∀ x ∈ [recordsEntry 1 false, answerEntry 1, answerEntry 2], x.inAttempt = false →
        (answerEntry 1).body.priority ≤ x.body.priority) ∧
      ∀ x ∈ [recordsEntry 1 false], x.inAttempt = false → x.body.priority ≠ (answerEntry 1).body.priority) ∧
    ((slotted (some announced) [alarmEntry 0 false]).service = some demoImage ∧ (alarmEntry 0 false).body.priority < 2 ∧
      (slotted (some announced) [alarmEntry 0 false]).link.slot = some announced) ∧
    ((slotted (some announced) [answerEntry 1]).link.slot = some announced ∧
      (∀ x ∈ [answerEntry 1], x.inAttempt = false → 2 ≤ x.body.priority) ∧
      (slotted (some announced) []).link.slot = some announced) ∧
    ((onIdleLine [answerEntry 1]).service = some demoImage ∧ (onIdleLine [answerEntry 1]).mayAttempt = true) ∧
    (slotted none [answerEntry 1]).mayAttempt = false ∧ (driving 0).link.tx ≠ .idle := by
  and_intros <;> decide +kernel

/-- A DEMAND on the line. -/
def drivingDemand (collisions : Nat) (slot : Option Announcement) : State :=
  { demo with link := { demo.link with slot := slot, tx := .demand { announced with collisions := collisions } false [] } }

/-- A frame of the queue with 0, 1 and 2 collisions; a DEMAND with 1 and 2, the slot empty and full. -/
theorem witness_AnAttemptEndsInOneOfThreeWays :
    ((driving 0).service = some demoImage ∧
      (driving 0).link.tx = .entry false ((recordsEntry 1 true).body.wire 5 false) ∧
      (driving 0).link.queue = [answerEntry 1] ++ recordsEntry 1 true :: [] ∧ (recordsEntry 1 true).inAttempt = true ∧
      ∀ x ∈ [answerEntry 1] ++ ([] : List Entry), x.inAttempt = false) ∧
    ((driving 1).link.queue.map Entry.collisions = [0, 1] ∧ (driving 2).link.queue.map Entry.collisions = [0, 2]) ∧
    ((drivingDemand 1 none).link.tx = .demand { announced with collisions := 1 } false [] ∧
      (drivingDemand 1 none).link.slot = none ∧ (drivingDemand 1 (some announced)).link.slot ≠ none ∧
      (drivingDemand 2 none).link.tx = .demand { announced with collisions := 2 } false []) := by
  and_intros <;> decide +kernel

/-- Seven frames and eight; the newest waiting RECORDS; the oldest waiting ANSWER when no RECORDS waits; neither. -/
theorem witness_TheDropOrder :
    ((List.replicate 7 (alarmEntry 0 false)).length < 8 ∧ 8 ≤ fullQueue.length) ∧
    (fullQueue = [alarmEntry 0 false, answerEntry 1, answerEntry 2, recordsEntry 1 true, recordsEntry 2 false,
        answerEntry 3] ++ recordsEntry 3 false :: [alarmEntry 1 false] ∧ (recordsEntry 3 false).inAttempt = false ∧
      (recordsEntry 3 false).body.priority = 6 ∧
      ∀ y ∈ [alarmEntry 1 false], y.inAttempt = false → y.body.priority ≠ 6) ∧
    (8 ≤ (recordsEntry 1 true :: List.replicate 7 (answerEntry 1)).length ∧
      (∀ y ∈ recordsEntry 1 true :: List.replicate 7 (answerEntry 1), y.inAttempt = false → y.body.priority ≠ 6) ∧
      (alarmEntry 0 false).body.isAlarm = true ∧ (answerEntry 1).body.isAlarm = false ∧
      recordsEntry 1 true :: List.replicate 7 (answerEntry 1) =
        [recordsEntry 1 true] ++ answerEntry 1 :: List.replicate 6 (answerEntry 1) ∧
      (answerEntry 1).body.priority = 4 ∧ ∀ y ∈ [recordsEntry 1 true], y.inAttempt = false → y.body.priority ≠ 4) ∧
    (8 ≤ fullOfAlarms.link.queue.length ∧ (∀ y ∈ fullOfAlarms.link.queue, y.inAttempt = false → y.body.priority ≠ 6) ∧
      ∀ y ∈ fullOfAlarms.link.queue, y.inAttempt = false → y.body.priority ≠ 4) := by
  and_intros <;> decide +kernel

theorem witness_TheLowerNumberWinsTheLine : (1#8).toNat < (2#8).toNat ∧ (254#8).toNat < (255#8).toNat ∧
    (4#8 = 4#8 ∧ (5#8).toNat < (6#8).toNat) := by
  and_intros <;> decide +kernel

/-- A counter at its end, a full report queue, an interval with figures and one without. -/
theorem witness_AReportClosesTheInterval : (closing.service = some demoImage ∧ closing.recs.timer = some 0 ∧
      closing.recs.queue.length ≤ 16 ∧ closing.recs.seq ≤ 65535) ∧
    (({ demo with recs := { demo.recs with queue := List.replicate 16 (record 1), seq := 65535 } } : State).service =
        some demoImage ∧ (List.replicate 16 (record 1)).length ≤ 16 ∧ 65535 ≤ 65535) ∧
    ((closing.channel 1).iv.volume ≠ 0 ∧ (closing.channel 0).iv.volume = 0 ∧ 0 < (closing.channel 1).iv.mSum ∧
      (demoImage.channel 2).kind = .none) := by
  and_intros <;> decide +kernel

/-- A PEERS answer of four entries. -/
def fourPeers : Answer :=
  ⟨30, 7, 15, .accepted, 255, .peers 4 (List.replicate 4 ⟨31, 15, .isolated, ⟨1, 0, 0, 1⟩, true, 5⟩)⟩

theorem bodies_fit : (Body.alarm .isolationBegun).Fits ∧ (Body.records [record 1]).Fits ∧
    (Body.records [record 1, record 2, record 3]).Fits ∧ (Body.answer fourPeers).Fits := by
  refine ⟨⟨?_, ?_⟩, ⟨?_, ?_⟩, ⟨?_, ?_⟩, ?_, ?_⟩
  · intro _ h; exact absurd h (by simp)
  · intro _ _ _ h; exact absurd h (by simp)
  · intro _ h; rw [← Body.records.inj h]; decide
  · intro _ _ _ h; exact absurd h (by simp)
  · intro _ h; rw [← Body.records.inj h]; decide
  · intro _ _ _ h; exact absurd h (by simp)
  · intro _ h; exact absurd h (by simp)
  · intro _ _ _ h hc
    rw [← Body.answer.inj h] at hc
    rw [← (AnswerContent.peers.inj hc).2]
    decide

/-- A TARGET and a DEMAND with fields at their ends; an addressed frame to the own number and to 255; RECORDS of one
and of three records, a PEERS answer of four entries, an ALARM. -/
theorem witness_FramesGoRound :
    (sentFrame (.target 30 5 255 3 255 65535) = some (6, 30, 5, [255, 3, 255, 255, 255]) ∧
      (sentBytes 4 (.target 30 5 255 3 255 65535)).isSome = true ∧ (30#8).toNat ≠ 5 ∧ (5#8).toNat = 5) ∧
    ((sentFrame (.demandFrame 255 0 15 3 3 ⟨4294967295, 0, 1, 2⟩)).map Prod.fst = some 1 ∧
      (sentBytes 2 (.demandFrame 255 0 15 3 3 ⟨4294967295, 0, 1, 2⟩)).isSome = true ∧ (255#8).toNat ≠ 5) ∧
    ((sentFrame (.flush 30 255)).map Prod.fst = some 14) ∧
    (5 < 256 ∧ 5 ≠ 6 ∧ announced.demand.weight < 256 ∧ announced.demand.demand.c0 < 2 ^ 32) ∧
    ((0 < 256 ∧ 255 < 256) ∧ (Body.alarm .isolationBegun).Fits ∧ (Body.records [record 1]).Fits ∧
      (Body.records [record 1, record 2, record 3]).Fits ∧ (Body.answer fourPeers).Fits) := by
  refine ⟨?_, ?_, ?_, ?_, by decide, bodies_fit⟩ <;> and_intros <;> decide +kernel

theorem demo_phases : demo.PhaseSound := by
  refine ⟨by decide, by decide, by decide, by decide, ?_, fun h => absurd h (by decide)⟩
  intro im h
  cases h
  exact test_image_is_valid.1

theorem witness_OutputsFollowTheirCauses : demo.OutputsFollow ∧ ∃ t, step demo = .next t :=
  ⟨⟨by decide +kernel, by decide +kernel⟩, _, rfl⟩

theorem witness_ThePhasesStaySound : demo.PhaseSound ∧ ∃ t, step demo = .next t := ⟨demo_phases, _, rfl⟩

theorem witness_DosesAndFeedersStayLawful : demo.PhaseSound ∧ demo.DosesLawful ∧ demo.FeedersLawful ∧
    ∃ t, step demo = .next t := by
  refine ⟨demo_phases, ?_, ?_, _, rfl⟩
  · intro im h
    cases h
    unfold Channel.DoseLaw
    decide +kernel
  · intro im h
    cases h
    unfold Channel.FeederLaw
    decide +kernel

theorem witness_TheWaterScaleStaysLawful : demo.flow.Sound ∧ demo.QueuesLawful ∧ ∃ t, step demo = .next t := by
  refine ⟨by unfold FlowUnit.Sound; decide +kernel, ?_, _, rfl⟩
  intro im h
  cases h
  unfold Channel.QueueLaw
  decide +kernel

theorem witness_ProtectionStaysDerived : demo.PhaseSound ∧ demo.StatesDerived ∧
    (∀ k, (demo.channel k).sup.TimersMatch) ∧ (∀ k, (demo.channel k).sup.LockRecorded) ∧ ∃ t, step demo = .next t := by
  refine ⟨demo_phases, demo_derived, by unfold Supervisor.TimersMatch; decide +kernel, ?_, _, rfl⟩
  intro k h
  revert k
  decide +kernel

theorem witness_TheTablesStayLawful : demo.PhaseSound ∧ ({ demo with peer := peers } : State).TablesLawful ∧
    ∃ t, step demo = .next t := by
  refine ⟨demo_phases, ?_, _, rfl⟩
  intro im h
  cases h
  refine ⟨⟨by decide +kernel, by decide +kernel⟩, ?_⟩
  intro g
  have e : demo.peer.capacity.get g = ⟨none, none⟩ := by revert g; decide
  rw [show ({ demo with peer := peers } : State).peer.capacity = demo.peer.capacity from rfl, e]
  simp [GroupSlots.Law]

theorem witness_TheLinkStaysSound : demo.PhaseSound ∧ demo.link.Sound ∧ demo.RestartAwaited ∧ demo.LineUsed ∧
    (onIdleLine []).LineUsed ∧ ∃ t, step demo = .next t := by
  refine ⟨demo_phases, ⟨by decide, by decide, ?_, by decide⟩, ⟨by decide, by decide, by decide⟩,
    ⟨by decide, by decide⟩, ⟨by decide, by decide⟩, _, rfl⟩
  rintro a (h | h) <;> cases h

theorem witness_RecordNumbersRunOn : demo.recs.Sound ∧ ({ demo.recs with queue := [record 65535], seq := 0 }
    : RecordBuilder).Sound ∧ ∃ t, step demo = .next t := by
  refine ⟨by unfold RecordBuilder.Sound; decide +kernel, by unfold RecordBuilder.Sound; decide +kernel, _, rfl⟩

/-- The stale record of analyzer 2 before a report, LOW RESIDUAL ACTIVE on channel 1. -/
def unreported : State :=
  (after (.freshnessTimerExpiry 2) (due demo)).onChannel 1 fun c => { c with sup := { c.sup with low := .active } }

/-- GOOD at the top of the range and one above it, SUSPECT, the other measurand; a fresh record and a stale one with
an ACTIVE condition that the sample ends. -/
theorem witness_ASampleIsOfferedToItsChannels :
    (demo.service = some demoImage ∧ unreported.service = some demoImage) ∧
    ((demo.intake.records.get 2).fresh = true ∧ (unreported.intake.records.get 2).fresh = false ∧
      (unreported.channel 1).sup.stale = .active ∧ (unreported.channel 1).sup.low = .active) ∧
    ([sample 2 1 0 1000, sample 2 1 0 1001, sample 2 1 1 40, sample 2 2 0 10000].all fun m =>
      m.start == 0xA5 && m.analyzer.toNat == 2 && (m.measurand == 1 || m.measurand == 2) &&
        (m.quality == 0 || m.quality == 1) && ((messageBytes m).map BitVec.toNat).sum % 256 == 0) = true ∧
    demo.StatesDerived ∧ unreported.StatesDerived ∧
    ([1] : List (Fin 4)).Pairwise (fun i j => i < j) ∧
    ∀ k, k ∈ ([1] : List (Fin 4)) ↔ (demoImage.channel k).kind ≠ .none ∧ (demoImage.channel k).analyzer = some 2 :=
  ⟨by decide +kernel, by decide +kernel, by decide +kernel, demo_derived,
    derived_of _ (by decide +kernel) (by decide +kernel), by decide +kernel, by decide +kernel⟩

end Sys2Proof.Tests
end

section
/-! The shares of a grant (Chapter 5): what each function of the Share Engine gives at most, from the fair share of
the water-fill up to the split of the station grant, and statement R86. -/

namespace Sys2Proof.Machine

/-! ### The reserve rule -/

/-- A part of an amount, rounded down, is at most the amount: the reserve (R79) and the fair share (R83) are such
parts. -/
theorem mul_div_le_of_le {part whole : Nat} (amount : Nat) (h : part ≤ whole) : amount * part / whole ≤ amount :=
  Nat.div_le_of_le_mul (by rw [Nat.mul_comm whole]; exact Nat.mul_le_mul_left amount h)

theorem Image.reserveShare_le_of_valid {im : Image} (hv : im.valid = true) : im.station.reserveShare ≤ 1000 := by
  simp only [Image.valid, StationConfig.valid, within, Bool.and_eq_true, decide_eq_true_eq] at hv
  omega

theorem reserve_le {capacity share : Nat} (h : share ≤ 1000) : reserve capacity share ≤ capacity :=
  mul_div_le_of_le capacity h

/-! ### The order of the participants only rearranges them -/

theorem insertParticipant_perm (p : Participant) (ps : List Participant) :
    (insertParticipant p ps).Perm (p :: ps) := by
  induction ps with
  | nil => exact .rfl
  | cons q qs ih =>
    unfold insertParticipant
    split
    · exact .rfl
    · exact (ih.cons q).trans (.swap p q qs)

theorem orderParticipants_perm (ps : List Participant) : (orderParticipants ps).Perm ps := by
  induction ps with
  | nil => exact .rfl
  | cons p ps ih => exact (insertParticipant_perm p _).trans (ih.cons p)

@[simp] theorem totalWeight_orderParticipants (ps : List Participant) :
    totalWeight (orderParticipants ps) = totalWeight ps :=
  ((orderParticipants_perm ps).map Participant.weight).sum_eq

@[simp] theorem totalWeight_cons (p : Participant) (ps : List Participant) :
    totalWeight (p :: ps) = p.weight + totalWeight ps := rfl

theorem weight_le_totalWeight {p : Participant} {ps : List Participant} (hp : p ∈ ps) :
    p.weight ≤ totalWeight ps :=
  List.le_sum_of_mem (List.mem_map_of_mem hp)

@[simp] theorem totalDemand_cons (p : Participant) (ps : List Participant) :
    totalDemand (p :: ps) = p.demand + totalDemand ps := rfl

/-! ### No grant of the water-fill exceeds the capacity -/

theorem fairShare_le {weight weights : Nat} (remaining : Nat) (h : weight ≤ weights) :
    fairShare remaining weight weights ≤ remaining :=
  mul_div_le_of_le remaining h

/-- The weights still counted cover those of the participants still to come, so no fair share exceeds what remains
(R83). -/
theorem walk_grant_le {ps : List Participant} {remaining weights : Nat} (hw : totalWeight ps ≤ weights)
    {x : Nat × Nat} (hx : x ∈ walk remaining weights ps) : x.2 ≤ remaining := by
  induction ps generalizing remaining weights with
  | nil => cases hx
  | cons p ps ih =>
    unfold walk at hx
    split at hx
    next hserved =>
      rcases List.mem_cons.mp hx with rfl | hx
      · have hp : p.weight ≤ weights := (weight_le_totalWeight List.mem_cons_self).trans hw
        exact hserved.trans (fairShare_le remaining hp)
      · have hrest : totalWeight ps ≤ weights - p.weight := by rw [totalWeight_cons] at hw; omega
        exact (ih hrest hx).trans (Nat.sub_le remaining p.demand)
    next =>
      obtain ⟨q, hq, rfl⟩ := List.mem_map.mp hx
      exact fairShare_le remaining ((weight_le_totalWeight hq).trans hw)

theorem fill_grant_le {capacity : Nat} {ps : List Participant} {x : Nat × Nat} (hx : x ∈ fill capacity ps) :
    x.2 ≤ capacity :=
  walk_grant_le (totalWeight_orderParticipants ps).le hx

/-- A bound on every grant holds of the grant found under a number, which is 0 when none stands there. -/
theorem grantUnder_le {grants : List (Nat × Nat)} {bound : Nat} (h : ∀ x ∈ grants, x.2 ≤ bound) (number : Nat) :
    grantUnder number grants ≤ bound := by
  unfold grantUnder
  cases hfind : grants.find? (fun g => g.1 == number) with
  | none => exact Nat.zero_le bound
  | some x => exact h x (List.mem_of_find?_eq_some hfind)

theorem waterFill_le (capacity : Nat) (own : Participant) (peers : List Participant) :
    waterFill capacity own peers ≤ capacity := by
  unfold waterFill
  split
  next => exact Nat.zero_le capacity
  next =>
    split
    next hfits => rw [totalDemand_cons] at hfits; omega
    next => exact grantUnder_le (fun _ hx => fill_grant_le hx) own.number

/-! ### The station grant -/

theorem State.stationGrant_le_capacityOf {s : State} (im : Image) (g : Fin 4) (h : s.stn = .run) :
    s.stationGrant im g ≤ s.capacityOf im g := by
  rw [State.stationGrant, if_pos h]
  exact waterFill_le _ _ _

theorem State.stationGrant_le_reserve {s : State} (im : Image) (g : Fin 4) (h : s.stn ≠ .run) :
    s.stationGrant im g ≤ reserve (s.capacityOf im g) im.station.reserveShare := by
  rw [State.stationGrant, if_neg h]
  exact Nat.min_le_right _ _

/-- In every state of the station the grant fits the group's capacity, for the reserve is a part of it. -/
theorem State.stationGrant_le_capacityOf_of_valid (s : State) {im : Image} (g : Fin 4) (hv : im.valid = true) :
    s.stationGrant im g ≤ s.capacityOf im g := by
  by_cases hrun : s.stn = .run
  · exact s.stationGrant_le_capacityOf im g hrun
  · exact (s.stationGrant_le_reserve im g hrun).trans (reserve_le (Image.reserveShare_le_of_valid hv))

/-! ### The split (R85) -/

theorem split_of_le {grant demand : Nat} (mCap : Nat) (h : demand ≤ grant) : split grant demand mCap = mCap :=
  if_pos h

theorem split_of_lt {grant demand : Nat} (mCap : Nat) (h : grant < demand) :
    split grant demand mCap = grant * mCap / demand :=
  if_neg (Nat.not_le.mpr h)

theorem split_mul_le {grant demand : Nat} (mCap : Nat) (h : grant < demand) :
    split grant demand mCap * demand ≤ grant * mCap := by
  rw [split_of_lt mCap h]
  exact Nat.div_mul_le_self _ _

/-- Parts rounded down one by one sum to at most the whole rounded down once. -/
theorem sum_map_mul_div_le (a d : Nat) (ms : List Nat) : (ms.map fun m => a * m / d).sum ≤ a * ms.sum / d := by
  induction ms with
  | nil => exact Nat.zero_le _
  | cons m ms ih =>
    rw [List.map_cons, List.sum_cons, List.sum_cons, Nat.mul_add]
    exact (Nat.add_le_add_left ih _).trans (Nat.div_add_div_le_add_div)

/-- The demands that make up the station demand are given at most the station grant between them. -/
theorem sum_map_split_le (grant : Nat) (ms : List Nat) : (ms.map (split grant ms.sum)).sum ≤ grant := by
  rcases Nat.lt_or_ge grant ms.sum with hlt | hge
  · calc (ms.map (split grant ms.sum)).sum
        = (ms.map fun m => grant * m / ms.sum).sum := by rw [List.map_congr_left fun m _ => split_of_lt m hlt]
      _ ≤ grant * ms.sum / ms.sum := sum_map_mul_div_le grant ms.sum ms
      _ = grant := Nat.mul_div_cancel grant (Nat.zero_lt_of_lt hlt)
  · calc (ms.map (split grant ms.sum)).sum
        = ms.sum := by rw [List.map_congr_left fun m _ => split_of_le m hge, List.map_id']
      _ ≤ grant := hge

theorem State.sum_shares_le_stationGrant (s : State) (im : Image) (g : Fin 4) :
    ((im.onGroup g).map fun k => split (s.stationGrant im g) (s.stationDemand im g) (s.channel k).dose.mCap).sum ≤
      s.stationGrant im g := by
  have h := sum_map_split_le (s.stationGrant im g) ((im.onGroup g).map fun k => (s.channel k).dose.mCap)
  rwa [List.map_map] at h

/-! ### The statement -/

/-- Settles O20: the shares sum to at most the station grant, which the capacity bounds in RUN and the reserve, a part
of the capacity, outside it. -/
theorem sharesStayWithinTheCapacity : Obligations.SharesStayWithinTheCapacity := by
  intro s im g _ hvalid
  have hshares := s.sum_shares_le_stationGrant im g
  have hcapacity := s.stationGrant_le_capacityOf_of_valid g hvalid
  have hreserve : s.stn ≠ .run → s.stationGrant im g ≤ s.capacityOf im g * im.station.reserveShare / 1000 :=
    s.stationGrant_le_reserve im g
  refine ⟨hshares.trans hcapacity, ?outsideRun, hshares, ?eachShare, rfl, fun _ => hcapacity, hreserve⟩
  case outsideRun =>
    intro hstn
    have hrun : s.stn ≠ .run := by rcases hstn with h | h | h <;> simp [h]
    exact hshares.trans (hreserve hrun)
  case eachShare =>
    intro k _
    exact ⟨fun hcovers => (split_of_le _ hcovers).le, fun hshort => split_mul_le _ hshort⟩

end Sys2Proof.Machine
end

section
/-! The outputs and their causes (7.6, R106, R128): what moves a channel's state, an inhibit, FAULT or the station state
in each shared operation, then each command, and the statement that every step keeps them together. -/

namespace Sys2Proof.Machine

/-! ### The levels, read as their causes -/

theorem StationState.inService_eq_false_iff {x : StationState} : x.inService = false ↔ x = .load ∨ x = .halted := by
  cases x <;> simp [StationState.inService]

theorem ChannelState.asserts_iff {x : ChannelState} : x.asserts = true ↔ x = .faulted ∨ x = .locked := by
  cases x <;> simp [ChannelState.asserts]

theorem inhibitLevel_iff {x : StationState} {c : ChannelState} :
    inhibitLevel x c = true ↔ c = .locked ∨ x = .load ∨ x = .halted := by
  rw [inhibitLevel, Bool.or_eq_true, Bool.not_eq_true', StationState.inService_eq_false_iff, beq_iff_eq, or_comm]

theorem inhibitLevel_of_inService {x : StationState} (c : ChannelState) (h : x.inService = true) :
    inhibitLevel x c = (c == .locked) := by
  simp [inhibitLevel, h]

theorem State.faultLevel_iff {s : State} :
    s.faultLevel = true ↔ s.stn.inService = false ∨ ∃ k, (s.channel k).state.asserts = true := by
  simp [State.faultLevel, State.channel, Four.mem_toList]

/-- FAULT reads of the state only whether the station serves and the state of each channel. -/
theorem State.faultLevel_congr {s t : State} (hstn : t.stn.inService = s.stn.inService)
    (hstate : ∀ k, (t.channel k).state = (s.channel k).state) : t.faultLevel = s.faultLevel := by
  rw [Bool.eq_iff_iff, State.faultLevel_iff, State.faultLevel_iff, hstn]
  simp only [hstate]

/-! ### What leaves the outputs at their causes -/

/-- A channel's state and its inhibit are the same after some work on it. -/
def Channel.SameDrive (before after : Channel) : Prop :=
  after.state = before.state ∧ after.feeder.inh = before.feeder.inh

/-- The law of the outputs reads of the state only these parts. -/
theorem State.OutputsFollow.of_same {s t : State} (h : s.OutputsFollow)
    (hstn : t.stn.inService = s.stn.inService) (hdrive : ∀ k, (s.channel k).SameDrive (t.channel k))
    (hfault : t.faultOut = s.faultOut) : t.OutputsFollow := by
  obtain ⟨hinh, hout⟩ := h
  refine ⟨fun k => ?_, ?_⟩
  · obtain ⟨hstate, hsame⟩ := hdrive k
    rw [hsame, hinh k, hstate, inhibitLevel, inhibitLevel, hstn]
  · rw [hfault, hout, State.faultLevel_congr hstn fun k => (hdrive k).1]

/-- Outside service every inhibit and FAULT stand asserted, whatever the channels' states (R106, R128). -/
theorem State.outputsFollow_of_asserted {s : State} (hstn : s.stn.inService = false)
    (hinh : ∀ k, (s.channel k).feeder.inh = true) (hout : s.faultOut = true) : s.OutputsFollow :=
  ⟨fun k => by simp [hinh k, inhibitLevel, hstn], by simp [hout, State.faultLevel, hstn]⟩

/-- In service, once FAULT is formed anew, it is enough that each inhibit follows its channel. -/
theorem State.outputsFollow_formFault {s : State} (hstn : s.stn.inService = true)
    (hinh : ∀ k, (s.channel k).feeder.inh = ((s.channel k).state == .locked)) : s.formFault.OutputsFollow :=
  ⟨fun k => (hinh k).trans (inhibitLevel_of_inService _ hstn).symm, rfl⟩

/-! ### The resets, HALTED and entry into service -/

theorem State.pinReset_outputsFollow (s : State) : s.pinReset.OutputsFollow :=
  outputsFollow_of_asserted rfl
    (fun k => congrArg (fun c => c.feeder.inh) (Four.get_all Channel.held k)) rfl

theorem State.beginRestart_outputsFollow (s : State) : s.beginRestart.OutputsFollow :=
  outputsFollow_of_asserted rfl
    (fun k => congrArg (fun c => c.feeder.inh) (Four.get_ofFn (fun k => (s.channel k).heldForRestart) k)) rfl

theorem State.halt_outputsFollow (s : State) : s.halt.OutputsFollow :=
  outputsFollow_of_asserted rfl
    (fun k => congrArg (fun c => c.feeder.inh) (Four.get_ofFn (fun k => (s.channel k).inhibit) k)) rfl

theorem Channel.loaded_inh (c : Channel) (cc : ChannelConfig) (sameKind : Bool) (selector : Fin 8) (k : Fin 4) :
    (c.loaded cc sameKind selector k).feeder.inh = ((c.loaded cc sameKind selector k).state == .locked) := by
  unfold Channel.loaded
  split <;> rfl

theorem State.enterService_outputsFollow (s : State) (im : Image) : (s.enterService im).OutputsFollow := by
  unfold State.enterService
  refine outputsFollow_formFault rfl fun k => ?_
  simp only [State.channel, Four.get_ofFn, Channel.loaded_inh]

/-! ### Within an event of service -/

/-- In service, the outputs at their causes: what each part of an event of service keeps, until the event's end, at
which a restart may begin. Both facts read only the station state, the channels and FAULT, so `⟨h.inService, h.follow⟩`
carries them over a change of any other field. -/
structure State.Served (s : State) : Prop where
  inService : s.stn.inService = true
  follow : s.OutputsFollow

theorem State.OutputsFollow.served {s : State} {im : Image} (h : s.OutputsFollow) (hs : s.service = some im) :
    s.Served :=
  ⟨(service_eq_some.mp hs).1, h⟩

namespace State.Served

variable {s : State}

/-- A change between the states of service, JOIN, RUN, ISOLATED and SILENT, moves no output. -/
theorem restation (h : s.Served) {x : StationState} (hx : x.inService = true) :
    ({ s with stn := x } : State).Served :=
  ⟨hx, h.follow.of_same (hx.trans h.inService.symm) (fun _ => ⟨rfl, rfl⟩) rfl⟩

theorem setChannel (h : s.Served) {k : Fin 4} {c : Channel} (hc : (s.channel k).SameDrive c) :
    (s.setChannel k c).Served := by
  refine ⟨h.inService, h.follow.of_same rfl (fun j => ?_) rfl⟩
  rw [State.channel_setChannel]
  split
  next hj => exact hj ▸ hc
  next => exact ⟨rfl, rfl⟩

theorem onChannel (h : s.Served) {k : Fin 4} {f : Channel → Channel}
    (hf : (s.channel k).SameDrive (f (s.channel k))) : (s.onChannel k f).Served :=
  h.setChannel hf

theorem forChannels (h : s.Served) {ks : List (Fin 4)} {f : Fin 4 → State → State}
    (hf : ∀ k (t : State), t.Served → (f k t).Served) : (s.forChannels ks f).Served :=
  State.forChannels_keeps hf ks h

/-- A frame queued, and the test of R157 that it brings, touch only the link. -/
theorem enqueue (h : s.Served) (b : Body) (awaited : Bool := false) : (s.enqueue b awaited).Served :=
  ⟨h.inService, h.follow⟩

theorem attemptTest (h : s.Served) : s.attemptTest.Served := ⟨h.inService, h.follow⟩

theorem answer (h : s.Served) (src tag : Byte) (kind : Nat) (r : ResultCode) (ch : Byte) (x : AnswerContent)
    (awaited : Bool := false) : (s.answer src tag kind r ch x awaited).Served :=
  h.enqueue _ awaited

/-- The channel of an event takes the derived state and the inhibit of that state, and FAULT is formed anew, so the
other channels need only keep theirs (R112). -/
theorem settleChannel (h : s.Served) (im : Image) (k : Fin 4) (after : Channel) (cause : Option AlarmCause) :
    (s.settleChannel im k after cause).Served := by
  have hformed : (s.setChannel k
      (supervise (im.channel k) s.flow.v s.flow.idle (s.channel k) after)).formFault.Served := by
    refine ⟨h.inService, outputsFollow_formFault h.inService fun j => ?_⟩
    rw [State.channel_setChannel]
    split
    next => rfl
    next => rw [h.follow.1 j, inhibitLevel_of_inService _ h.inService]
  rcases s.settleChannel_eq im k after cause with hquiet | ⟨alarm, halarm⟩
  · exact hquiet ▸ hformed
  · exact halarm ▸ hformed.enqueue alarm

theorem rederiveAll (h : s.Served) (im : Image) : (s.rederiveAll im).Served :=
  h.forChannels fun k t ht => ht.settleChannel im k (t.channel k) none

theorem packOne (h : s.Served) (n : Nat) : (s.packOne n).Served := ⟨h.inService, h.follow⟩

theorem packWhile (h : s.Served) (n need fuel : Nat) : (s.packWhile n need fuel).Served :=
  State.packWhile_keeps (fun _ _ _ hs => hs.packOne n) fuel h

theorem packingTest (h : s.Served) (im : Image) : (s.packingTest im).Served :=
  State.packingTest_keeps (fun _ _ _ hs => hs.packOne _) h

/-- The end of an event: the outputs follow whether or not a restart begins there (R143). -/
theorem settleRestart (h : s.Served) : s.settleRestart.OutputsFollow := by
  rcases s.settleRestart_cases with ⟨-, hsame⟩ | ⟨-, -, hbegins⟩ | ⟨-, -, hmark⟩
  · rw [hsame]
    exact h.follow
  · exact hbegins ▸ s.beginRestart_outputsFollow
  · rw [hmark]
    exact h.follow

/-! ### Station states (Chapter 4) -/

theorem enterJoin (h : s.Served) : s.enterJoin.Served :=
  have hjoin := h.restation (x := .join) rfl
  ⟨hjoin.inService, hjoin.follow⟩

theorem hear (h : s.Served) : s.hear.Served := by
  have hheard : ({ s with peer := { s.peer with silence := 0, heard := true } } : State).Served :=
    ⟨h.inService, h.follow⟩
  unfold State.hear
  dsimp only
  split
  · exact hheard.enterJoin.enqueue _
  · exact hheard

theorem enterSilent (h : s.Served) : s.enterSilent.Served := by
  have hleft : (if s.stn = .isolated then s.enqueue (.alarm .isolationEnded) else s).Served := by
    split
    · exact h.enqueue _
    · exact h
  have hsilent := hleft.restation (x := .silent) rfl
  exact ⟨hsilent.inService, hsilent.follow⟩

theorem conflict (h : s.Served) : s.conflict.Served := by
  have hheard : ({ s with peer := { s.peer with silence := 0, heard := true } } : State).Served :=
    ⟨h.inService, h.follow⟩
  unfold State.conflict
  dsimp only
  split
  · exact ⟨hheard.inService, hheard.follow⟩
  · exact hheard.enterSilent

theorem isolationTest (h : s.Served) (limit : Nat) : (s.isolationTest limit).Served := by
  unfold State.isolationTest
  split
  · exact (h.restation rfl).enqueue _
  · exact h

theorem joinStep (h : s.Served) (limit : Nat) : (s.joinStep limit).Served := by
  have hraised : ({ s with peer := { s.peer with joinCount := s.peer.joinCount + 1 } } : State).Served :=
    ⟨h.inService, h.follow⟩
  unfold State.joinStep
  dsimp only
  split
  · exact (hraised.restation rfl).isolationTest limit
  · exact hraised

theorem choiceRead (h : s.Served) : s.choiceRead.Served := ⟨h.inService, h.follow⟩

theorem rejoin (h : s.Served) (im : Image) : (s.rejoin im).Served := by
  have hjoined := h.enterJoin.attemptTest
  unfold State.rejoin
  generalize s.enterJoin.attemptTest = u at hjoined
  dsimp only
  split
  · exact (hjoined.choiceRead.enqueue (.alarm .addressConflict)).packingTest im
  · exact (hjoined.choiceRead.packingTest im).enqueue (.alarm .addressConflict)

theorem conflictClearStep (h : s.Served) (im : Image) : (s.conflictClearStep im).Served := by
  unfold State.conflictClearStep
  split
  · exact ⟨h.inService, h.follow⟩
  · have hraised : ({ s with
        peer :=
          { s.peer with
            conflictClear := s.peer.conflictClear + 1, silencedAtExpiry := false } } : State).Served :=
      ⟨h.inService, h.follow⟩
    dsimp only
    split
    · exact hraised.rejoin im
    · exact hraised

theorem stationStep (h : s.Served) (im : Image) : (s.stationStep im).Served := by
  unfold State.stationStep
  split
  · exact h.joinStep _
  · exact h.isolationTest _
  · exact h
  · exact h.conflictClearStep im
  · exact h
  · exact h

theorem announce (h : s.Served) (im : Image) : (s.announce im).Served := ⟨h.inService, h.follow⟩

/-! ### Frames received and requests (Chapters 8 and 10) -/

/-- Whatever a frame is dispatched to, its arrival ends with the outputs at their causes if the dispatch keeps them
there. -/
theorem receive (h : s.Served) (im : Image) (src : Byte) {dispatch : State → State}
    (hd : ∀ s : State, s.Served → (dispatch s).Served) : (s.receive im src dispatch).OutputsFollow := by
  have hcounted : s.countAccepted.Served := ⟨h.inService, h.follow⟩
  unfold State.receive
  dsimp only
  split
  · refine settleRestart ?_
    split
    · exact hcounted.conflict
    · exact hd _ hcounted.hear
  · exact h.follow

theorem request (h : s.Served) (im : Image) (src dst : Byte) {act : State → State}
    (ha : ∀ s : State, s.Served → (act s).Served) : (s.request im src dst act).OutputsFollow := by
  refine h.receive im src fun s hs => ?_
  split
  · exact ha s hs
  · exact hs

theorem onNamed (h : s.Served) (im : Image) (src tag : Byte) (kind : Nat) (ch : Byte) (refused : AnswerContent)
    {act : Fin 4 → State → State} (ha : ∀ k (s : State), s.Served → (act k s).Served) :
    (s.onNamed im src tag kind ch refused act).Served := by
  unfold State.onNamed
  split
  · exact ha _ s h
  · exact h.answer ..

theorem takeTarget (h : s.Served) (im : Image) (src tag ch flags : Byte) (value : Half) :
    (s.takeTarget im src tag ch flags value).Served :=
  h.onNamed im src tag 6 ch _ fun _ _ hs => (hs.onChannel ⟨rfl, rfl⟩).answer ..

theorem takeProfile (h : s.Served) (im : Image) (src tag ch flags index : Byte) :
    (s.takeProfile im src tag ch flags index).Served := by
  refine h.onNamed im src tag 7 ch _ fun k s hs => ?_
  split
  · exact hs.answer ..
  · exact (hs.onChannel ⟨rfl, rfl⟩).answer ..

theorem takeCeiling (h : s.Served) (im : Image) (src tag ch : Byte) (value : Half) :
    (s.takeCeiling im src tag ch value).Served :=
  h.onNamed im src tag 8 ch _ fun _ _ hs => (hs.onChannel ⟨rfl, rfl⟩).answer ..

theorem takeFreeze (h : s.Served) (im : Image) (src tag ch : Byte) : (s.takeFreeze im src tag ch).Served :=
  h.onNamed im src tag 9 ch _ fun _ _ hs => (hs.onChannel ⟨rfl, rfl⟩).answer ..

theorem takeCommit (h : s.Served) (im : Image) : (s.takeCommit im).Served :=
  h.forChannels fun _ _ ht => ht.onChannel ⟨rfl, rfl⟩

theorem takeClearFeeder (h : s.Served) (im : Image) (k : Fin 4) : (s.takeClearFeeder im k).2.Served := by
  unfold State.takeClearFeeder
  split
  · dsimp only
    exact h.settleChannel im k _ _
  · exact h

theorem takeRelease (h : s.Served) (im : Image) (k : Fin 4) : (s.takeRelease im k).2.Served := by
  unfold State.takeRelease
  dsimp only
  split
  · split
    · dsimp only
      exact h.settleChannel im k _ _
    · exact h
  · exact h

theorem takeRestart (h : s.Served) (src tag : Byte) : (s.takeRestart src tag).Served := ⟨h.inService, h.follow⟩

/-! ### Reports (Chapter 9) -/

theorem closeInterval (h : s.Served) (k : Fin 4) : (s.closeInterval k).Served := by
  have happended : ({ s with
      recs :=
        { s.recs with
          queue := appendRecord s.recs.queue ((s.channel k).record k s.recs.seq)
          seq := nextSeq s.recs.seq } } : State).Served := ⟨h.inService, h.follow⟩
  exact happended.setChannel ⟨rfl, rfl⟩

/-! ### The analyzer line (Chapter 3) -/

theorem countNotGood (h : s.Served) (im : Image) (a : Fin 8) : (s.countNotGood im a).Served :=
  h.forChannels fun _ _ ht => ht.onChannel ⟨rfl, rfl⟩

theorem countRejected (h : s.Served) (im : Image) (number : Option Byte) : (s.countRejected im number).Served := by
  unfold State.countRejected
  split
  · exact h.countNotGood im _
  · exact h

theorem acceptSample (h : s.Served) (im : Image) (a : Fin 8) (x : Reading) : (s.acceptSample im a x).Served := by
  refine forChannels ?_ fun _ _ ht => ht.settleChannel ..
  exact ⟨h.inService, h.follow⟩

theorem judgeSample (h : s.Served) (im : Image) (a : Fin 8) (m : Measurand) (q : SentQuality) (value : Nat) :
    (s.judgeSample im a m q value).Served := by
  unfold State.judgeSample
  cases q with
  | fault => exact h.countNotGood im a
  | good =>
    dsimp only
    split <;> exact h.acceptSample im a _
  | suspect => exact h.acceptSample im a _

theorem takeMessage (h : s.Served) (im : Image) (msg : SampleMessage) : (s.takeMessage im msg).Served := by
  unfold State.takeMessage
  split
  · split
    · exact h.judgeSample ..
    · exact h.countNotGood im _
  · exact h.countNotGood im _
  · exact h

theorem closeIntake (h : s.Served) : ({ s with intake := s.intake.close } : State).Served :=
  ⟨h.inService, h.follow⟩

end State.Served

/-! ### A channel's work that leaves its drive alone (Chapters 2 and 6) -/

theorem Channel.issueTest_sameDrive (cc : ChannelConfig) (c : Channel) : c.SameDrive (c.issueTest cc) := by
  unfold Channel.issueTest
  split <;> exact ⟨rfl, rfl⟩

theorem Channel.takeGrant_sameDrive (cc : ChannelConfig) (q v gch : Nat) (c : Channel) :
    c.SameDrive (c.takeGrant cc q v gch) :=
  Channel.issueTest_sameDrive cc (Channel.credit cc { c with dose := { c.dose with gch := gch } } gch)

/-! ### The commands -/

/-- The outcome is a next state with the outputs at their causes. -/
inductive Follows : Host.Outcome State Fault Refusal → Prop where
  | next {t : State} (h : t.OutputsFollow) : Follows (.next t)

theorem Follows.outputsFollow {t : State} : Follows (.next t) → t.OutputsFollow
  | .next h => h

theorem follows_of_served {t : State} (h : t.Served) : Follows (.next t) :=
  .next h.follow

/-- An event of service at whose end a restart may begin. -/
theorem follows_settleRestart {t : State} (h : t.Served) : Follows (.next t.settleRestart) :=
  .next h.settleRestart

/-- A command of service changes nothing in LOAD and HALTED, so only its work in service is to be judged. -/
theorem follows_inService {s : State} {work : Image → Host.Outcome State Fault Refusal} (h : s.OutputsFollow)
    (hwork : ∀ im, s.Served → Follows (work im)) :
    Follows (match s.service with | none => .next s | some im => work im) := by
  cases hs : s.service with
  | none => exact .next h
  | some im => exact hwork im (h.served hs)

/-- A command whose event cannot happen in the state leaves the state as it is. -/
theorem follows_ite_next {s : State} {event : Prop} [Decidable event] {o : Host.Outcome State Fault Refusal}
    (h : s.OutputsFollow) (ho : Follows o) : Follows (if event then o else .next s) := by
  split
  · exact ho
  · exact .next h

/-! ### The commands of the Loader and the link, which act outside service too -/

theorem State.attemptFails_outputsFollow {s : State} (h : s.OutputsFollow) : s.attemptFails.OutputsFollow := by
  unfold State.attemptFails
  split
  · exact s.halt_outputsFollow
  · exact h

theorem State.partRead_outputsFollow {s : State} (h : s.OutputsFollow) (data : List Byte) :
    (s.partRead data).OutputsFollow := by
  unfold State.partRead
  split
  next => exact s.halt_outputsFollow
  next =>
    dsimp only
    split
    next => exact h
    next =>
      split
      next im _ => exact s.enterService_outputsFollow im
      next => exact s.halt_outputsFollow

theorem execResetNRise_follows {s : State} (h : s.OutputsFollow) : Follows (execResetNRise s) := by
  unfold execResetNRise
  split <;> exact .next h

theorem execReadTransaction_follows {s : State} (h : s.OutputsFollow) (r : ReadResult) :
    Follows (execReadTransaction r s) := by
  refine follows_ite_next h ?_
  cases r with
  | failed => exact .next (State.attemptFails_outputsFollow h)
  | completed data => exact follows_ite_next h (.next (State.partRead_outputsFollow h data))

theorem execTransactionTimeout_follows {s : State} (h : s.OutputsFollow) : Follows (execTransactionTimeout s) :=
  follows_ite_next h (.next (State.attemptFails_outputsFollow h))

theorem execRetryWait_follows {s : State} (h : s.OutputsFollow) : Follows (execRetryWait s) := by
  unfold execRetryWait
  split <;> exact .next h

theorem execTransmitAttempt_follows {s : State} (h : s.OutputsFollow) : Follows (execTransmitAttempt s) := by
  unfold execTransmitAttempt
  split <;> exact .next h

theorem State.returnDemand_outputsFollow {s : State} (h : s.OutputsFollow) (a : Announcement) :
    (s.returnDemand a).OutputsFollow := by
  unfold State.returnDemand
  split <;> exact h

theorem State.afterLeaving_outputsFollow {s : State} (h : s.OutputsFollow) : s.afterLeaving.OutputsFollow := by
  unfold State.afterLeaving
  split
  next => exact h
  next im hs => exact ((h.served hs).packingTest im).settleRestart

theorem execFrameLost_follows {s : State} (h : s.OutputsFollow) : Follows (execFrameLost s) := by
  unfold execFrameLost
  split
  next => exact .next h
  next => exact .next h
  next a _ _ _ =>
    have hstopped : ({ s with link := s.link.stopDriving .driven } : State).OutputsFollow := h
    exact .next (State.returnDemand_outputsFollow hstopped a)

theorem execFrameCollided_follows {s : State} (h : s.OutputsFollow) : Follows (execFrameCollided s) := by
  unfold execFrameCollided
  split
  next => exact .next h
  next =>
    have hleft : ({ s with link := s.link.leave } : State).countRejectedFrame.OutputsFollow := h
    split
    · exact .next (State.afterLeaving_outputsFollow hleft)
    · exact .next h
  next a _ _ _ =>
    have hstopped : ({ s with link := s.link.stopDriving .own } : State).OutputsFollow := h
    dsimp only
    split
    · exact .next hstopped
    · exact .next (State.returnDemand_outputsFollow hstopped _)

theorem execFrameCompleted_follows {s : State} (h : s.OutputsFollow) : Follows (execFrameCompleted s) := by
  unfold execFrameCompleted
  split
  next => exact .next h
  next overflow _ _ =>
    have hleft : ({ s with
        link :=
          { s.link.leave with
            overflowAlarm := s.link.leave.overflowAlarm && !overflow } } : State).OutputsFollow := h
    exact .next (State.afterLeaving_outputsFollow hleft)
  next => exact .next h

/-! ### The commands of flow, selector and dose (Chapters 1, 2 and 6) -/

theorem execFlowPulse_follows {s : State} (h : s.OutputsFollow) : Follows (execFlowPulse s) := by
  refine follows_inService h fun im hs => ?_
  have hpulsed : ({ s with flow := s.flow.pulse im.station.idleTime } : State).Served :=
    ⟨hs.inService, h⟩
  dsimp only
  split
  · exact follows_of_served (hpulsed.rederiveAll im)
  · exact .next h

theorem execFlowSample_follows {s : State} (h : s.OutputsFollow) : Follows (execFlowSample s) := by
  refine follows_inService h fun im hs => follows_ite_next h ?_
  have hsampled : ({ s with flow := s.flow.sample im.station.litresPerPulse } : State).Served := ⟨hs.inService, h⟩
  exact follows_of_served (hsampled.forChannels fun _ _ ht => ht.onChannel ⟨rfl, rfl⟩)

theorem execIdleTimerExpiry_follows {s : State} (h : s.OutputsFollow) : Follows (execIdleTimerExpiry s) := by
  refine follows_inService h fun im hs => follows_ite_next h ?_
  have hidle : ({ s with flow := s.flow.goIdle } : State).Served := ⟨hs.inService, h⟩
  exact follows_of_served (hidle.rederiveAll im)

theorem execLineChange_follows {s : State} (h : s.OutputsFollow) (p0 p1 p2 : Bool) :
    Follows (execLineChange p0 p1 p2 s) := by
  unfold execLineChange
  split
  · exact .next h
  · dsimp only
    split <;> exact .next h

theorem execSettleTimerExpiry_follows {s : State} (h : s.OutputsFollow) : Follows (execSettleTimerExpiry s) := by
  unfold execSettleTimerExpiry
  split
  next im _ hs _ =>
    split
    · refine follows_of_served (State.Served.forChannels ?_ fun _ _ ht => ht.onChannel ⟨rfl, rfl⟩)
      exact ⟨(h.served hs).inService, h⟩
    · exact .next h
  next => exact .next h

theorem execDoseUpdate_follows {s : State} (h : s.OutputsFollow) (k : Fin 4) : Follows (execDoseUpdate k s) := by
  refine follows_inService h fun im hs => follows_ite_next h ?_
  have hupdated : (s.onChannel k (Channel.updateDose (im.channel k) s.flow.q s.flow.v)).Served :=
    hs.onChannel ⟨rfl, rfl⟩
  have hrecorded : ((s.onChannel k (Channel.updateDose (im.channel k) s.flow.q s.flow.v)).recordGrant im
      (im.channel k).group).Served := ⟨hupdated.inService, hupdated.follow⟩
  exact follows_of_served (hrecorded.onChannel (Channel.takeGrant_sameDrive ..))

theorem execStrokeIntervalExpiry_follows {s : State} (h : s.OutputsFollow) (k : Fin 4) :
    Follows (execStrokeIntervalExpiry k s) :=
  follows_inService h fun im hs => follows_ite_next h <| follows_of_served <|
    hs.setChannel (Channel.issueTest_sameDrive (im.channel k)
      { s.channel k with feeder := { (s.channel k).feeder with timer := none } })

theorem execConfirm_follows {s : State} (h : s.OutputsFollow) (k : Fin 4) : Follows (execConfirm k s) := by
  refine follows_inService h fun im hs => follows_ite_next h ?_
  split
  · exact follows_of_served (hs.setChannel ⟨rfl, rfl⟩)
  · exact follows_of_served (hs.setChannel ⟨rfl, rfl⟩)
  · exact follows_settleRestart (hs.settleChannel ..)

theorem execDeadlineExpiry_follows {s : State} (h : s.OutputsFollow) (k : Fin 4) :
    Follows (execDeadlineExpiry k s) := by
  refine follows_inService h fun im hs => follows_ite_next h ?_
  dsimp only
  split
  · exact follows_settleRestart (hs.settleChannel ..)
  · exact follows_of_served (hs.setChannel ⟨rfl, rfl⟩)

theorem execGraceDeadlineExpiry_follows {s : State} (h : s.OutputsFollow) (k : Fin 4) :
    Follows (execGraceDeadlineExpiry k s) := by
  refine follows_inService h fun im hs => follows_ite_next h ?_
  split
  · exact follows_of_served (hs.setChannel ⟨rfl, rfl⟩)
  all_goals exact .next h

/-! ### The commands of samples and of protection (Chapters 3 and 7) -/

theorem execAnalyzerMessage_follows {s : State} (h : s.OutputsFollow) (m : SampleMessage) :
    Follows (execAnalyzerMessage m s) :=
  follows_inService h fun im hs => follows_settleRestart (hs.closeIntake.takeMessage im m)

theorem execReceivedByteOnAnz_follows {s : State} (h : s.OutputsFollow) (b : Byte) :
    Follows (execReceivedByteOnAnz b s) := by
  refine follows_inService h fun im hs => ?_
  split
  · split <;> exact .next h
  · split
    · exact .next h
    · exact follows_settleRestart (hs.closeIntake.takeMessage im _)

theorem execMessageGap_follows {s : State} (h : s.OutputsFollow) : Follows (execMessageGap s) :=
  follows_inService h fun im hs => follows_ite_next h (follows_of_served (hs.closeIntake.countRejected im _))

theorem execFreshnessTimerExpiry_follows {s : State} (h : s.OutputsFollow) (a : Fin 8) :
    Follows (execFreshnessTimerExpiry a s) := by
  refine follows_inService h fun _ hs => follows_ite_next h ?_
  refine follows_settleRestart (State.Served.forChannels ?_ fun _ _ ht => ht.settleChannel ..)
  exact ⟨hs.inService, h⟩

theorem execAlertTimerExpiry_follows {s : State} (h : s.OutputsFollow) (k : Fin 4) (w : ResidualCondition) :
    Follows (execAlertTimerExpiry k w s) :=
  follows_inService h fun _ hs => follows_ite_next h (follows_settleRestart (hs.settleChannel ..))

theorem execRunOnTimerExpiry_follows {s : State} (h : s.OutputsFollow) (k : Fin 4) :
    Follows (execRunOnTimerExpiry k s) :=
  follows_inService h fun _ hs => follows_ite_next h (follows_of_served (hs.settleChannel ..))

theorem execQuietTimerExpiry_follows {s : State} (h : s.OutputsFollow) (k : Fin 4) :
    Follows (execQuietTimerExpiry k s) :=
  follows_inService h fun _ hs => follows_ite_next h (follows_of_served (hs.setChannel ⟨rfl, rfl⟩))

/-! ### The commands of stations and frames (Chapters 4 and 10) -/

theorem execRestartBegins_follows {s : State} (h : s.OutputsFollow) : Follows (execRestartBegins s) :=
  follows_inService h fun _ _ => follows_ite_next h (.next s.beginRestart_outputsFollow)

theorem execAnnounceExpiry_follows {s : State} (h : s.OutputsFollow) : Follows (execAnnounceExpiry s) := by
  refine follows_inService h fun im hs => follows_ite_next h (follows_settleRestart ?_)
  have hexpired : ({ s with peer := s.peer.expire im } : State).Served := ⟨hs.inService, h⟩
  have hstepped := hexpired.stationStep im
  split
  · exact hstepped.announce im
  · exact hstepped

theorem execDemandFrame_follows {s : State} (h : s.OutputsFollow) (src dst weight state flags : Byte)
    (demand : Four Word) : Follows (execDemandFrame src dst weight state flags demand s) := by
  refine follows_inService h fun im hs => ?_
  refine .next (hs.receive im src fun u hu => ?_)
  split
  · exact ⟨hu.inService, hu.follow⟩
  · exact hu

theorem execSupplyFrame_follows {s : State} (h : s.OutputsFollow) (src dst group : Byte) (capacity : Word) :
    Follows (execSupplyFrame src dst group capacity s) := by
  refine follows_inService h fun im hs => ?_
  refine .next (hs.receive im src fun u hu => ?_)
  split
  · split
    · exact ⟨hu.inService, hu.follow⟩
    · exact hu
  · exact hu

theorem execConflictFrame_follows {s : State} (h : s.OutputsFollow) : Follows (execConflictFrame s) := by
  refine follows_inService h fun _ hs => follows_ite_next h ?_
  have hcounted : s.countAccepted.Served := ⟨hs.inService, h⟩
  exact follows_settleRestart hcounted.conflict

theorem execOtherFrame_follows {s : State} (h : s.OutputsFollow) (src kind dst : Byte) :
    Follows (execOtherFrame src kind dst s) :=
  follows_inService h fun im hs => .next (hs.receive im src fun _ hu => hu)

theorem execLinkReject_follows {s : State} (h : s.OutputsFollow) (bytes : List Byte) :
    Follows (execLinkReject bytes s) := by
  refine follows_inService h fun _ _ => ?_
  split <;> exact .next h

/-! ### The requests (Chapter 8) -/

theorem execTarget_follows {s : State} (h : s.OutputsFollow) (src dst tag ch flags : Byte) (value : Half) :
    Follows (execTarget src dst tag ch flags value s) :=
  follows_inService h fun im hs => .next (hs.request im src dst fun _ hu => hu.takeTarget ..)

theorem execProfile_follows {s : State} (h : s.OutputsFollow) (src dst tag ch flags index : Byte) :
    Follows (execProfile src dst tag ch flags index s) :=
  follows_inService h fun im hs => .next (hs.request im src dst fun _ hu => hu.takeProfile ..)

theorem execCeiling_follows {s : State} (h : s.OutputsFollow) (src dst tag ch : Byte) (value : Half) :
    Follows (execCeiling src dst tag ch value s) :=
  follows_inService h fun im hs => .next (hs.request im src dst fun _ hu => hu.takeCeiling ..)

theorem execFreeze_follows {s : State} (h : s.OutputsFollow) (src dst tag ch : Byte) :
    Follows (execFreeze src dst tag ch s) :=
  follows_inService h fun im hs => .next (hs.request im src dst fun _ hu => hu.takeFreeze ..)

theorem execCommit_follows {s : State} (h : s.OutputsFollow) (src dst : Byte) : Follows (execCommit src dst s) := by
  refine follows_inService h fun im hs => ?_
  refine .next (hs.receive im src fun u hu => ?_)
  split
  · exact hu.takeCommit im
  · exact hu

theorem execClearFeeder_follows {s : State} (h : s.OutputsFollow) (src dst tag ch : Byte) :
    Follows (execClearFeeder src dst tag ch s) :=
  follows_inService h fun im hs => .next (hs.request im src dst fun _ hu =>
    hu.onNamed im src tag 11 ch _ fun k _ hv => (hv.takeClearFeeder im k).answer ..)

theorem execRelease_follows {s : State} (h : s.OutputsFollow) (src dst tag ch : Byte) :
    Follows (execRelease src dst tag ch s) :=
  follows_inService h fun im hs => .next (hs.request im src dst fun _ hu =>
    hu.onNamed im src tag 12 ch _ fun k _ hv => (hv.takeRelease im k).answer ..)

theorem execRestart_follows {s : State} (h : s.OutputsFollow) (src dst tag : Byte) :
    Follows (execRestart src dst tag s) :=
  follows_inService h fun im hs => .next (hs.request im src dst fun _ hu => hu.takeRestart src tag)

theorem execFlush_follows {s : State} (h : s.OutputsFollow) (src dst : Byte) : Follows (execFlush src dst s) :=
  follows_inService h fun im hs => .next (hs.request im src dst fun _ hu => hu.packWhile 3 1 _)

theorem execQuery_follows {s : State} (h : s.OutputsFollow) (src dst tag subject p1 p2 : Byte) :
    Follows (execQuery src dst tag subject p1 p2 s) :=
  follows_inService h fun im hs => .next (hs.request im src dst fun _ hu => hu.answer ..)

/-! ### The commands of reports (Chapter 9) -/

theorem execPackingTest_follows {s : State} (h : s.OutputsFollow) : Follows (execPackingTest s) :=
  follows_inService h fun im hs => follows_of_served (hs.packingTest im)

theorem execReportTimerExpiry_follows {s : State} (h : s.OutputsFollow) : Follows (execReportTimerExpiry s) := by
  refine follows_inService h fun im hs => follows_ite_next h ?_
  have hclosed := hs.forChannels (ks := im.configured) fun k _ ht => ht.closeInterval k
  generalize s.forChannels im.configured (fun k s => s.closeInterval k) = u at hclosed
  refine follows_of_served (State.Served.packingTest ?_ im)
  exact ⟨hclosed.inService, hclosed.follow⟩

/-! ### Every command, and every step -/

theorem exec_follows (i : Instr) {s : State} (h : s.OutputsFollow) : Follows (exec i s) := by
  cases i with
  | pinReset => exact .next s.pinReset_outputsFollow
  | resetNRise => exact execResetNRise_follows h
  | readTransaction r => exact execReadTransaction_follows h r
  | transactionTimeout => exact execTransactionTimeout_follows h
  | retryWait => exact execRetryWait_follows h
  | restartBegins => exact execRestartBegins_follows h
  | flowPulse => exact execFlowPulse_follows h
  | flowSample => exact execFlowSample_follows h
  | idleTimerExpiry => exact execIdleTimerExpiry_follows h
  | lineChange p0 p1 p2 => exact execLineChange_follows h p0 p1 p2
  | settleTimerExpiry => exact execSettleTimerExpiry_follows h
  | doseUpdate k => exact execDoseUpdate_follows h k
  | analyzerMessage m => exact execAnalyzerMessage_follows h m
  | messageGap => exact execMessageGap_follows h
  | freshnessTimerExpiry a => exact execFreshnessTimerExpiry_follows h a
  | alertTimerExpiry k w => exact execAlertTimerExpiry_follows h k w
  | runOnTimerExpiry k => exact execRunOnTimerExpiry_follows h k
  | quietTimerExpiry k => exact execQuietTimerExpiry_follows h k
  | strokeIntervalExpiry k => exact execStrokeIntervalExpiry_follows h k
  | confirm k => exact execConfirm_follows h k
  | deadlineExpiry k => exact execDeadlineExpiry_follows h k
  | graceDeadlineExpiry k => exact execGraceDeadlineExpiry_follows h k
  | announceExpiry => exact execAnnounceExpiry_follows h
  | demandFrame src dst weight state flags demand =>
    exact execDemandFrame_follows h src dst weight state flags demand
  | supplyFrame src dst group capacity => exact execSupplyFrame_follows h src dst group capacity
  | conflictFrame => exact execConflictFrame_follows h
  | otherFrame src kind dst => exact execOtherFrame_follows h src kind dst
  | linkReject bytes => exact execLinkReject_follows h bytes
  | target => exact execTarget_follows h ..
  | profile => exact execProfile_follows h ..
  | ceiling => exact execCeiling_follows h ..
  | freeze => exact execFreeze_follows h ..
  | commit => exact execCommit_follows h ..
  | clearFeeder => exact execClearFeeder_follows h ..
  | release => exact execRelease_follows h ..
  | restart => exact execRestart_follows h ..
  | flush => exact execFlush_follows h ..
  | query => exact execQuery_follows h ..
  | transmitAttempt => exact execTransmitAttempt_follows h
  | frameLost => exact execFrameLost_follows h
  | frameCollided => exact execFrameCollided_follows h
  | frameCompleted => exact execFrameCompleted_follows h
  | reportTimerExpiry => exact execReportTimerExpiry_follows h
  | packingTest => exact execPackingTest_follows h
  | receivedByteOnAnz b => exact execReceivedByteOnAnz_follows h b

/-- A millisecond moves only timers and deadlines. -/
theorem State.elapse_outputsFollow {s : State} (h : s.OutputsFollow) : s.elapse.OutputsFollow := by
  refine h.of_same rfl (fun k => ?_) rfl
  have helapsed : s.elapse.channel k = (s.channel k).elapse := Four.get_ofFn _ k
  rw [helapsed]
  exact ⟨rfl, rfl⟩

/-- The expiry that is taken is taken in the state as it is, but for the count of free choices. -/
theorem nextExpiry_state {s s' : State} {i : Instr} (h : nextExpiry s = some (i, s')) :
    s' = s ∨ s' = s.choiceRead := by
  unfold nextExpiry at h
  split at h
  next => cases h
  next => cases h; exact .inl rfl
  next => cases h; exact .inr rfl

theorem nextExpiry_outputsFollow {s s' : State} {i : Instr} (h : s.OutputsFollow)
    (hnext : nextExpiry s = some (i, s')) : s'.OutputsFollow := by
  rcases nextExpiry_state hnext with rfl | rfl <;> exact h

theorem step_follows {s : State} (h : s.OutputsFollow) : Follows (step s) := by
  unfold step
  split
  next c rest _ =>
    have htaken : ({ s with pending := rest } : State).OutputsFollow := h
    exact exec_follows c htaken
  next =>
    split
    next c s' hnext => exact exec_follows c (nextExpiry_outputsFollow h hnext)
    next => exact .next (State.elapse_outputsFollow h)

/-! ### What the levels mean (R106, R128) -/

namespace State.OutputsFollow

variable {s : State}

theorem inh_iff (h : s.OutputsFollow) (k : Fin 4) :
    (s.channel k).feeder.inh = true ↔ (s.channel k).state = .locked ∨ s.stn = .load ∨ s.stn = .halted := by
  rw [h.1 k, inhibitLevel_iff]

theorem faultOut_iff (h : s.OutputsFollow) : s.faultOut = true ↔ s.stn = .load ∨ s.stn = .halted ∨
    ∃ k, (s.channel k).state = .faulted ∨ (s.channel k).state = .locked := by
  rw [h.2, State.faultLevel_iff, StationState.inService_eq_false_iff, or_assoc]
  simp only [ChannelState.asserts_iff]

/-- In service LOAD and HALTED are ruled out. -/
theorem faultOut_iff_of_service (h : s.OutputsFollow) {im : Image} (hs : s.service = some im) :
    s.faultOut = true ↔ ∃ k, (s.channel k).state = .faulted ∨ (s.channel k).state = .locked := by
  rw [h.2, State.faultLevel_iff, (service_eq_some.mp hs).1]
  simp [ChannelState.asserts_iff]

end State.OutputsFollow

/-- Where the states are derived, a channel of kind NONE is OFF, so one that asserts FAULT is configured (R111). -/
theorem State.StatesDerived.kind_ne_none {s : State} {im : Image} (hd : s.StatesDerived) (hs : s.service = some im)
    {k : Fin 4} (hk : (s.channel k).state = .faulted ∨ (s.channel k).state = .locked) :
    (im.channel k).kind ≠ .none := by
  intro hnone
  have hoff : (s.channel k).state = .off := by simp [hd im hs k, ChannelConfig.configured, hnone]
  simp [hoff] at hk

/-! ### The statement -/

/-- Settles O52: every command keeps the outputs at their causes, by the law of each shared operation it is made of, and
the levels then mean what R106 and R128 say. -/
theorem outputsFollowTheirCauses : Obligations.OutputsFollowTheirCauses := by
  intro s t h hstep
  have ht : t.OutputsFollow := (hstep ▸ step_follows h : Follows (.next t)).outputsFollow
  refine ⟨ht.inh_iff, ht.faultOut_iff, fun im hs hderived => ?_, ht⟩
  rw [ht.faultOut_iff_of_service hs]
  exact exists_congr fun k => ⟨fun hk => ⟨hderived.kind_ne_none hs hk, hk⟩, And.right⟩

end Sys2Proof.Machine
end

section
/-! What an event of service is made of: the changes that its parts make to the state, one for each shared operation and
each work on a channel, and every command read as such changes. Each law of the state is then judged once for each
change. -/

namespace Sys2Proof.Machine

/-! ### The changes -/

/-- The work of a command on a channel that needs no derivation of its state: what the channel is afterwards. -/
inductive ChannelWork (cc : ChannelConfig) (f : FlowUnit) (c : Channel) : Channel → Prop where
  | figures (i : Interval) : ChannelWork cc f c { c with iv := i }
  | adoptSelector (i : Fin 8) : ChannelWork cc f c (c.adoptSelector cc i)
  | target (deferred : Bool) (item : TargetItem) :
      ChannelWork cc f c { c with dose := c.dose.target deferred item }
  | profile (selector : Fin 8) (deferred : Bool) (item : ProfileItem) :
      ChannelWork cc f c { c with dose := c.dose.profile cc selector deferred item }
  | ceiling (value : Nat) : ChannelWork cc f c { c with dose := (c.dose.ceiling cc.nativeCeiling value).2 }
  | freeze : ChannelWork cc f c { c with dose := { c.dose with freeze := true } }
  | commit (selector : Fin 8) : ChannelWork cc f c { c with dose := c.dose.commit cc selector }
  | doseUpdate (gch : Nat) (h : gch ≤ (c.updateDose cc f.q f.v).dose.mCap) :
      ChannelWork cc f c ((c.updateDose cc f.q f.v).takeGrant cc f.q f.v gch)
  | strokeInterval :
      ChannelWork cc f c (Channel.issueTest cc { c with feeder := { c.feeder with timer := none } })
  | confirmInTime {x : Stroke} {rest : List Stroke} (h : c.feeder.strokes = x :: rest) :
      ChannelWork cc f c (c.confirmInTime cc rest)
  | confirmLate {x : Stroke} {rest : List Stroke} (h : c.feeder.strokes = x :: rest) :
      ChannelWork cc f c (c.confirmLate rest)
  | miss : ChannelWork cc f c (c.miss cc)
  | graceOver {x : Stroke} {rest : List Stroke} (h : c.feeder.strokes = x :: rest) :
      ChannelWork cc f c { c with feeder := { c.feeder with strokes := rest } }
  | quietOver : ChannelWork cc f c { c with sup := { c.sup with quietTimer := none } }

/-- An event on a channel: its own changes, before the state is derived from them (R112). -/
inductive ChannelEvent (cc : ChannelConfig) (v : Nat) (c : Channel) : Channel → Prop where
  | unexpected : ChannelEvent cc v c (c.confirmUnexpected cc)
  | feederFault :
      ChannelEvent cc v c { c.miss cc with sup := { (c.miss cc).sup with feederFault := .active } }
  | raise (w : ResidualCondition) : ChannelEvent cc v c { c with sup := c.sup.raise w }
  | runOnOver : ChannelEvent cc v c { c with sup := { c.sup with runOn := .clear, runOnTimer := none } }
  | stale : ChannelEvent cc v c { c with sup := { c.sup with stale := .active } }
  | sample (fresh : Bool) (x : Reading) : ChannelEvent cc v c ((c.hearFresh fresh).offer cc v x)
  | clearFeeder : ChannelEvent cc v c c.clearFeeder
  | release (analyzerStale : Bool) : ChannelEvent cc v c (c.releaseLock cc analyzerStale)

/-- Q, V and the ring are the same, which only a flow sample moves (R5, R6). -/
def FlowUnit.SameWater (f g : FlowUnit) : Prop := f.q = g.q ∧ f.v = g.v ∧ f.ring = g.ring

/-- One change within an event of service. -/
inductive Change (im : Image) : State → State → Prop where
  | channel {s : State} {k : Fin 4} {c : Channel} (hk : (im.channel k).configured = true)
      (h : ChannelWork (im.channel k) s.flow (s.channel k) c) : Change im s (s.setChannel k c)
  | settle {s : State} {k : Fin 4} {after : Channel} (cause : Option AlarmCause)
      (hk : (im.channel k).configured = true) (h : ChannelEvent (im.channel k) s.flow.v (s.channel k) after) :
      Change im s (s.settleChannel im k after cause)
  | rederive {s : State} (f : FlowUnit) (hwater : f.SameWater s.flow) (h : s.flow.Sound → f.Sound) :
      Change im s (({ s with flow := f } : State).rederiveAll im)
  | flow {s : State} (f : FlowUnit) (hidle : f.idle = s.flow.idle) (hwater : f.SameWater s.flow)
      (h : s.flow.Sound → f.Sound) : Change im s { s with flow := f }
  | aside {s : State} (psel : Bool × Bool × Bool) (selector : Selector) (intake : SampleIntake)
      (share : Four GrantRecord) (freeCount : Nat) :
      Change im s { s with
        psel := psel, selector := selector, intake := intake, share := share, freeCount := freeCount }
  | peer {s : State} (p : PeerView) (htable : s.peer.TableLaw im.station.number → p.TableLaw im.station.number)
      (hslots : ∀ g, (s.peer.capacity.get g).Law (im.groups.get g).maxCapacity →
        (p.capacity.get g).Law (im.groups.get g).maxCapacity) : Change im s { s with peer := p }
  | restation {s : State} {x : StationState} (h : s.stn.transmits = true) (hx : x.transmits = true) :
      Change im s { s with stn := x }
  | rejoin {s : State} : Change im s s.enterJoin.attemptTest
  | silence {s : State} (h : s.link.tx = .idle) : Change im s { s with stn := .silent, link := s.link.empty }
  | enqueue {s : State} (b : Body) : Change im s (s.enqueue b)
  | awaitRestart {s : State} (src tag : Byte) : Change im s (s.takeRestart src tag)
  | announce {s : State} : Change im s (s.announce im)
  | driven {s : State} (h : s.link.tx = .idle) : Change im s { s with link := s.link.lineDriven }
  | counts {s : State} (r : RecordBuilder) (hqueue : r.queue = s.recs.queue) (hseq : r.seq = s.recs.seq) :
      Change im s { s with recs := r }
  | record {s : State} (r : DoseRecord) (hr : r.seq = s.recs.seq) :
      Change im s { s with
        recs := { s.recs with queue := appendRecord s.recs.queue r, seq := nextSeq s.recs.seq } }
  | pack {s : State} (n : Nat) (h : s.link.queue.length < queueCapacity) : Change im s (s.packOne n)
  | leave {s : State} {sent : Bool} {wire : List Byte} (h : s.link.tx = .entry sent wire) (overflow : Bool) :
      Change im s { s with link := { s.link.leave with overflowAlarm := overflow } }

/-- What an event of service does, before its end: a chain of changes. -/
abbrev Event (im : Image) : State → State → Prop := Relation.ReflTransGen (Change im)

/-- Work on channels that settles each leaves every part of the state that settling one leaves. -/
theorem State.settleChannel_same {β : Type} (g : State → β) (hchannels : ∀ s x y, g { s with channels := x, faultOut := y } = g s)
    (henqueue : ∀ s b, g (State.enqueue s b) = g s) (s : State) (im : Image) (k : Fin 4) (after : Channel)
    (cause : Option AlarmCause) : g (s.settleChannel im k after cause) = g s := by
  rcases s.settleChannel_eq im k after cause with h | ⟨b, h⟩
  · rw [h]; exact hchannels s _ _
  · rw [h, henqueue]; exact hchannels s _ _

theorem State.rederiveAll_same {β : Type} (g : State → β)
    (hchannels : ∀ s x y, g { s with channels := x, faultOut := y } = g s) (s : State) (im : Image) :
    g (s.rederiveAll im) = g s :=
  State.forChannels_same g (fun _ t => hchannels t _ _) _ s

/-- A change keeps the station in service with its image, and moves neither RESET_N nor the Loader. -/
theorem Change.frame {im : Image} {s t : State} (h : Change im s t) (hs : s.service = some im) :
    t.service = some im ∧ t.resetN = s.resetN ∧ t.loader = s.loader := by
  rw [State.service_eq_some] at hs ⊢
  obtain ⟨hserves, hconfig⟩ := hs
  have htransmits : ∀ {x : StationState}, x.transmits = true → x.inService = true := by
    intro x; cases x <;> decide
  cases h with
  | settle =>
    rename_i k after cause hk h
    have hsame := s.settleChannel_same (fun u => (u.stn, u.config, u.resetN, u.loader)) (fun _ _ _ => rfl)
      (fun _ _ => rfl) im k after cause
    simp only [Prod.mk.injEq] at hsame
    obtain ⟨hstn, hc, hr, hl⟩ := hsame
    exact ⟨⟨(congrArg StationState.inService hstn).trans hserves, hc.trans hconfig⟩, hr, hl⟩
  | rederive f =>
    have hsame := State.rederiveAll_same (fun u => (u.stn, u.config, u.resetN, u.loader)) (fun _ _ _ => rfl)
      { s with flow := f } im
    simp only [Prod.mk.injEq] at hsame
    obtain ⟨hstn, hc, hr, hl⟩ := hsame
    exact ⟨⟨(congrArg StationState.inService hstn).trans hserves, hc.trans hconfig⟩, hr, hl⟩
  | restation _ hx => exact ⟨⟨htransmits hx, hconfig⟩, rfl, rfl⟩
  | rejoin => exact ⟨⟨rfl, hconfig⟩, rfl, rfl⟩
  | silence => exact ⟨⟨rfl, hconfig⟩, rfl, rfl⟩
  | _ => exact ⟨⟨hserves, hconfig⟩, rfl, rfl⟩

/-- What each change keeps, in service, an event keeps. -/
theorem Event.keeps {im : Image} {P : State → Prop}
    (h : ∀ s t, s.service = some im → Change im s t → P s → P t) {s t : State} (he : Event im s t)
    (hs : s.service = some im) (hp : P s) : t.service = some im ∧ t.resetN = s.resetN ∧ t.loader = s.loader ∧ P t := by
  induction he with
  | refl => exact ⟨hs, rfl, rfl, hp⟩
  | tail _ hlast ih =>
    obtain ⟨hserves, hreset, hloader, hu⟩ := ih
    obtain ⟨hserves', hreset', hloader'⟩ := hlast.frame hserves
    exact ⟨hserves', hreset'.trans hreset, hloader'.trans hloader, h _ _ hserves hlast hu⟩

theorem Change.event {im : Image} {s t : State} (h : Change im s t) : Event im s t := .single h

/-! ### The shared operations as changes -/

section Operations

variable {im : Image}

theorem Event.forChannels {f : Fin 4 → State → State} {ks : List (Fin 4)}
    (hf : ∀ k ∈ ks, ∀ t, Event im t (f k t)) (s : State) : Event im s (s.forChannels ks f) :=
  State.forChannels_keeps_on (P := Event im s) (fun k hk t ht => ht.trans (hf k hk t)) .refl

/-- Work on each configured channel in turn. -/
theorem Event.onConfigured {g : Fin 4 → State → Channel → Channel}
    (hg : ∀ k s, ChannelWork (im.channel k) s.flow (s.channel k) (g k s (s.channel k))) (s : State) :
    Event im s (s.forChannels im.configured fun k s => s.onChannel k (g k s)) :=
  Event.forChannels (fun k hk t => (Change.channel (Image.mem_configured.mp hk) (hg k t)).event) s

theorem Event.countNotGood (s : State) (a : Fin 8) : Event im s (s.countNotGood im a) :=
  Event.forChannels (fun _ hk _ => (Change.channel (Image.mem_mapped.mp hk).1 (.figures _)).event) s

theorem Event.closeIntake (s : State) : Event im s { s with intake := s.intake.close } :=
  (Change.aside s.psel s.selector s.intake.close s.share s.freeCount).event

theorem Event.countRejected (s : State) (number : Option Byte) : Event im s (s.countRejected im number) := by
  unfold State.countRejected
  split
  · exact Event.countNotGood s _
  · exact .refl

theorem Event.acceptSample (s : State) (a : Fin 8) (x : Reading) : Event im s (s.acceptSample im a x) := by
  refine Relation.ReflTransGen.trans (Change.aside s.psel s.selector _ s.share s.freeCount).event
    (Event.forChannels (fun k hk t => ?_) _)
  exact (Change.settle _ (Image.mem_mapped.mp hk).1 (.sample _ x)).event

theorem Event.judgeSample (s : State) (a : Fin 8) (m : Measurand) (q : SentQuality) (value : Nat) :
    Event im s (s.judgeSample im a m q value) := by
  unfold State.judgeSample
  cases q with
  | fault => exact Event.countNotGood s a
  | suspect => exact Event.acceptSample s a _
  | good =>
    dsimp only
    split <;> exact Event.acceptSample s a _

theorem Event.takeMessage (s : State) (m : SampleMessage) : Event im s (s.takeMessage im m) := by
  unfold State.takeMessage
  split
  · split
    · exact Event.judgeSample ..
    · exact Event.countNotGood s _
  · exact Event.countNotGood s _
  · exact .refl

/-- A message that has arrived closes the open one and is taken. -/
theorem Event.arrival (s : State) (m : SampleMessage) :
    Event im s (({ s with intake := s.intake.close } : State).takeMessage im m) :=
  (Event.closeIntake s).trans (Event.takeMessage _ m)

theorem Event.packWhile (n need fuel : Nat) (s : State) : Event im s (State.packWhile n need fuel s) :=
  State.packWhile_keeps (P := Event im s) (fun _ _ hroom ht => ht.tail (.pack n hroom)) fuel .refl

theorem Event.packingTest (s : State) : Event im s (s.packingTest im) :=
  State.packingTest_keeps (P := Event im s) (fun _ _ hroom ht => ht.tail (.pack _ hroom)) .refl

/-- The Peer View changed but for its tables. -/
theorem Change.peerAside {s : State} (p : PeerView) (htable : p.table = s.peer.table)
    (hcapacity : p.capacity = s.peer.capacity) : Change im s { s with peer := p } :=
  .peer p (by unfold PeerView.TableLaw; rw [htable]; exact id) (by rw [hcapacity]; exact fun _ h => h)

theorem Event.peerAside {s : State} (p : PeerView) (htable : p.table = s.peer.table)
    (hcapacity : p.capacity = s.peer.capacity) : Event im s { s with peer := p } :=
  (Change.peerAside p htable hcapacity).event

theorem Event.enterJoin {s : State} (h : s.stn.transmits = true) : Event im s s.enterJoin :=
  (Change.restation (x := .join) h rfl).event.tail (.peerAside _ rfl rfl)

theorem Event.hear (s : State) : Event im s s.hear := by
  have hheard : Event im s { s with peer := { s.peer with silence := 0, heard := true } } :=
    Event.peerAside _ rfl rfl
  unfold State.hear
  dsimp only
  split
  next hstn => exact (hheard.trans (Event.enterJoin (by rw [hstn]; rfl))).tail (.enqueue _)
  next => exact hheard

/-- Within the arrival of a frame a frame queued begins no attempt, so the transmitter is idle as SILENT is entered. -/
theorem Event.enterSilent {s : State} (hline : s.link.line ≠ .idle) (htx : s.link.tx = .idle) :
    Event im s s.enterSilent := by
  unfold State.enterSilent
  dsimp only
  have hqueued : ∃ u, (if s.stn = .isolated then s.enqueue (.alarm .isolationEnded) else s) = u ∧
      Event im s u ∧ u.link.tx = .idle := by
    split
    · exact ⟨_, rfl, (Change.enqueue _).event, by rw [State.enqueue_of_driven _ _ hline]; simpa using htx⟩
    · exact ⟨_, rfl, .refl, htx⟩
  obtain ⟨u, hu, he, htx'⟩ := hqueued
  rw [hu]
  exact (he.tail (.silence htx')).tail (.peerAside u.peer.silenced rfl rfl)

theorem Event.conflict {s : State} (hline : s.link.line ≠ .idle) (htx : s.link.tx = .idle) :
    Event im s s.conflict := by
  have hheard : Event im s { s with peer := { s.peer with silence := 0, heard := true } } :=
    Event.peerAside _ rfl rfl
  unfold State.conflict
  dsimp only
  split
  · exact hheard.tail (.peerAside _ rfl rfl)
  · exact hheard.trans (Event.enterSilent hline htx)

theorem Event.countAccepted {s : State} (htx : s.link.tx = .idle) : Event im s s.countAccepted :=
  (Change.driven htx).event.tail (.counts _ rfl rfl)

/-- The arrival of a valid frame changes nothing, or is an event with its end. -/
theorem State.receive_event (s : State) (src : Byte) {dispatch : State → State}
    (hd : im.ownSource src = false → ∀ u, Event im u (dispatch u)) :
    s.receive im src dispatch = s ∨ ∃ t, s.receive im src dispatch = t.settleRestart ∧ Event im s t := by
  unfold State.receive
  dsimp only
  split
  next hlistens =>
    obtain ⟨htx, -⟩ := Link.listens_iff.mp hlistens
    refine .inr ⟨_, rfl, (Event.countAccepted htx).trans ?_⟩
    split
    · exact Event.conflict (by simp) (by simpa using htx)
    next hown => exact (Event.hear _).trans (hd (Bool.eq_false_iff.mpr hown) _)
  next => exact .inl rfl

theorem Event.isolationTest {s : State} (h : s.stn.transmits = true) (limit : Nat) :
    Event im s (s.isolationTest limit) := by
  unfold State.isolationTest
  split
  · exact (Change.restation (x := .isolated) h rfl).event.tail (.enqueue _)
  · exact .refl

theorem Event.joinStep {s : State} (h : s.stn.transmits = true) (limit : Nat) :
    Event im s (s.joinStep limit) := by
  have hraised : Event im s { s with peer := { s.peer with joinCount := s.peer.joinCount + 1 } } :=
    Event.peerAside _ rfl rfl
  unfold State.joinStep
  dsimp only
  split
  · exact (hraised.tail (.restation (x := .run) h rfl)).trans (Event.isolationTest rfl limit)
  · exact hraised

theorem Event.choiceRead (s : State) : Event im s s.choiceRead :=
  (Change.aside s.psel s.selector s.intake s.share (s.freeCount + 1)).event

theorem Event.rejoin (s : State) : Event im s (s.rejoin im) := by
  have hjoined : Event im s s.enterJoin.attemptTest := Change.rejoin.event
  unfold State.rejoin
  generalize s.enterJoin.attemptTest = u at hjoined
  have hread := hjoined.trans (Event.choiceRead u)
  dsimp only
  split
  · exact (hread.tail (.enqueue _)).trans (Event.packingTest _)
  · exact (hread.trans (Event.packingTest _)).tail (.enqueue _)

theorem Event.conflictClearStep (s : State) : Event im s (s.conflictClearStep im) := by
  unfold State.conflictClearStep
  split
  · exact Event.peerAside _ rfl rfl
  · have hraised : Event im s { s with
        peer := { s.peer with conflictClear := s.peer.conflictClear + 1, silencedAtExpiry := false } } :=
      Event.peerAside _ rfl rfl
    dsimp only
    split
    · exact hraised.trans (Event.rejoin _)
    · exact hraised

theorem Event.stationStep (s : State) : Event im s (s.stationStep im) := by
  unfold State.stationStep
  split
  next h => exact Event.joinStep (by rw [h]; rfl) _
  next h => exact Event.isolationTest (by rw [h]; rfl) _
  next => exact .refl
  next => exact Event.conflictClearStep s
  next => exact .refl
  next => exact .refl

/-- What is done to a named channel, or the refusal that is answered. -/
theorem Event.onNamed (s : State) (src tag : Byte) (kind : Nat) (ch : Byte) (refused : AnswerContent)
    {act : Fin 4 → State → State} (ha : ∀ k, (im.channel k).configured = true → Event im s (act k s)) :
    Event im s (s.onNamed im src tag kind ch refused act) := by
  unfold State.onNamed
  split
  next k hk =>
    refine ha k ?_
    unfold Image.named at hk
    split at hk
    · split at hk <;> simp_all
    · cases hk
  next => exact (Change.enqueue _).event

theorem Event.takeClearFeeder (s : State) {k : Fin 4} (hk : (im.channel k).configured = true) :
    Event im s (s.takeClearFeeder im k).2 := by
  unfold State.takeClearFeeder
  split
  · dsimp only
    exact (Change.settle _ hk .clearFeeder).event
  · exact .refl

theorem Event.takeRelease (s : State) {k : Fin 4} (hk : (im.channel k).configured = true) :
    Event im s (s.takeRelease im k).2 := by
  unfold State.takeRelease
  dsimp only
  split
  · split
    · dsimp only
      exact (Change.settle _ hk (.release _)).event
    · exact .refl
  · exact .refl

end Operations

end Sys2Proof.Machine
end

section
/-! What a command can do, said once for all of them: a step of the Loader, a reset, an attempt that begins or ends, or an
event of service, which may end with the start of a restart. -/

namespace Sys2Proof.Machine

/-! ### The outcomes -/

/-- What one command can make of the state. -/
inductive Done (s : State) : State → Prop where
  | same : Done s s
  | pinReset : Done s s.pinReset
  | resetRises (h : s.resetN = false) : Done s { s with resetN := true, loader := Loader.begin }
  | reads (l : Loader) (h : s.loader.phase ≠ .idle) : Done s { s with loader := l }
  | halts (h : s.loader.phase ≠ .idle) : Done s s.halt
  | loads {im : Image} (h : s.loader.phase ≠ .idle) (hv : im.valid = true) : Done s (s.enterService im)
  | lines (psel : Bool × Bool × Bool) (h : s.service = none) : Done s { s with psel := psel }
  | lineIdle (h : s.link.tx = .idle) : Done s { s with
      link := if s.service.isSome && s.stn.transmits
        then ({ s.link with line := .idle } : Link).beginAttempt s.stationNumber
        else { s.link with line := .idle } }
  | waitsAgain {sent : Bool} {wire : List Byte} (h : s.link.tx = .entry sent wire) {line : Line} (hline : line ≠ .idle)
      {f : Nat → Nat}
      (hf : ∀ e ∈ s.link.queue, e.inAttempt = true → e.collisions ≤ 2 → f e.collisions ≤ 2) :
      Done s { s with link := { s.link.stopDriving line with queue := waitAgain f s.link.queue } }
  | demandEnds {a : Announcement} {sent : Bool} {wire : List Byte} (h : s.link.tx = .demand a sent wire) {line : Line}
      (hline : line ≠ .idle) {slot : Option Announcement}
      (hslot : slot = s.link.slot ∨ ∃ b, slot = some b ∧ (a.collisions ≤ 2 → b.collisions ≤ 2)) (overflow : Bool)
      {r : RecordBuilder} (hqueue : r.queue = s.recs.queue) (hseq : r.seq = s.recs.seq) :
      Done s { s with
        link := { s.link.stopDriving line with slot := slot, overflowDemand := overflow }, recs := r }
  | leavesUnserved {sent : Bool} {wire : List Byte} (h : s.link.tx = .entry sent wire) (hs : s.service = none)
      (overflow : Bool) {r : RecordBuilder} (hqueue : r.queue = s.recs.queue) (hseq : r.seq = s.recs.seq) :
      Done s { s with link := { s.link.leave with overflowAlarm := overflow }, recs := r }
  | restarts {im : Image} (hs : s.service = some im) : Done s s.beginRestart
  | event {im : Image} {t : State} (hs : s.service = some im) (h : Event im s t)
      (hleft : t.link.awaitedLeft = s.link.awaitedLeft) : Done s t
  | ends {im : Image} {t : State} (hs : s.service = some im) (h : Event im s t) : Done s t.settleRestart

/-- What a flow sample does: the Flow Unit samples, and interval figures of channels change (R4, R12). -/
inductive Sampled (s : State) : State → Prop where
  | samples {im : Image} (hs : s.service = some im) (litres : Nat) {channels : Four Channel}
      (h : ∀ k, ∃ i, channels.get k = { s.channel k with iv := i }) :
      Sampled s { s with flow := s.flow.sample litres, channels := channels }

/-- The outcome of a command is a next state that the command can make. -/
inductive Does (s : State) : Host.Outcome State Fault Refusal → Prop where
  | next {t : State} (h : Done s t) : Does s (.next t)

theorem Does.done {s t : State} : Does s (.next t) → Done s t
  | .next h => h

theorem does_ite_next {s : State} {event : Prop} [Decidable event] {o : Host.Outcome State Fault Refusal}
    (h : event → Does s o) : Does s (if event then o else .next s) := by
  split
  · exact h ‹_›
  · exact .next .same

/-- A command of service changes nothing in LOAD and HALTED. -/
theorem does_inService {s : State} {work : Image → Host.Outcome State Fault Refusal}
    (h : ∀ im, s.service = some im → Does s (work im)) :
    Does s (match s.service with | none => .next s | some im => work im) := by
  cases hs : s.service with
  | none => exact .next .same
  | some im => exact h im hs

section Served

variable {s : State} {im : Image}

/-- An event of changes that leave the link alone. -/
theorem does_event {t : State} (hs : s.service = some im) (h : Event im s t) (hlink : t.link = s.link) :
    Does s (.next t) :=
  .next (.event hs h (by rw [hlink]))

theorem does_ends {t : State} (hs : s.service = some im) (h : Event im s t) : Does s (.next t.settleRestart) :=
  .next (.ends hs h)

theorem does_receive (hs : s.service = some im) (src : Byte) {dispatch : State → State}
    (hd : im.ownSource src = false → ∀ u, Event im u (dispatch u)) : Does s (.next (s.receive im src dispatch)) := by
  rcases s.receive_event src hd with h | ⟨t, h, he⟩
  · rw [h]; exact .next .same
  · rw [h]; exact does_ends hs he

theorem does_request (hs : s.service = some im) (src dst : Byte) {act : State → State}
    (ha : ∀ u, Event im u (act u)) : Does s (.next (s.request im src dst act)) := by
  refine does_receive hs src fun _ u => ?_
  split
  · exact ha u
  · exact .refl

end Served

/-! ### The queue takes a packed frame without loss -/

theorem Link.enqueue_of_room {l : Link} (e : Entry) (h : l.queue.length < queueCapacity) :
    l.enqueue e = { l with queue := l.queue ++ [e] } :=
  if_pos h

@[simp] theorem Link.attemptEntry_awaitedLeft (l : Link) (own p : Nat) :
    (l.attemptEntry own p).awaitedLeft = l.awaitedLeft := by
  unfold Link.attemptEntry
  split <;> rfl

@[simp] theorem Link.beginAttempt_awaitedLeft (l : Link) (own : Nat) :
    (l.beginAttempt own).awaitedLeft = l.awaitedLeft := by
  rcases l.beginAttempt_cases own with ⟨-, -, h⟩ | ⟨a, -, -, h⟩ | ⟨p, -, -, h⟩ <;> rw [h]
  · rfl
  · exact Link.attemptEntry_awaitedLeft l own p

@[simp] theorem State.testedLink_awaitedLeft (s : State) : s.testedLink.awaitedLeft = s.link.awaitedLeft := by
  unfold State.testedLink
  split
  · split
    · exact Link.beginAttempt_awaitedLeft _ _
    · rfl
  · rfl

theorem State.packOne_awaitedLeft {s : State} (n : Nat) (h : s.link.queue.length < queueCapacity) :
    (s.packOne n).link.awaitedLeft = s.link.awaitedLeft := by
  unfold State.packOne State.enqueue
  rw [State.attemptTest_link, State.testedLink_awaitedLeft]
  dsimp only
  rw [Link.enqueue_of_room _ h]

theorem State.packingTest_awaitedLeft (s : State) (im : Image) :
    (s.packingTest im).link.awaitedLeft = s.link.awaitedLeft :=
  State.packingTest_keeps (P := fun t => t.link.awaitedLeft = s.link.awaitedLeft)
    (fun _ _ hroom ht => (State.packOne_awaitedLeft _ hroom).trans ht) rfl

/-! ### The Loader -/

theorem checkImage_valid {bs : List Byte} {im : Image} (h : checkImage bs = some im) : im.valid = true := by
  unfold checkImage at h
  split at h
  · dsimp only at h
    split at h
    · split at h
      next hv => cases h; exact hv
      next => cases h
    · cases h
  · cases h

theorem State.attemptFails_done {s : State} (h : s.loader.phase ≠ .idle) : Done s s.attemptFails := by
  unfold State.attemptFails
  split
  · exact .halts h
  · exact .reads _ h

theorem State.partRead_done {s : State} (h : s.loader.phase ≠ .idle) (data : List Byte) : Done s (s.partRead data) := by
  unfold State.partRead
  split
  · exact .halts h
  · dsimp only
    split
    · exact .reads _ h
    · split
      next im him => exact .loads h (checkImage_valid him)
      next => exact .halts h

theorem execReadTransaction_does (s : State) (r : ReadResult) : Does s (execReadTransaction r s) := by
  refine does_ite_next fun h => ?_
  have hphase : s.loader.phase ≠ .idle := by simp [h]
  cases r with
  | failed => exact .next (State.attemptFails_done hphase)
  | completed data => exact does_ite_next fun _ => .next (State.partRead_done hphase data)

theorem execTransactionTimeout_does (s : State) : Does s (execTransactionTimeout s) :=
  does_ite_next fun h => .next (State.attemptFails_done (by simp [h.1]))

theorem execRetryWait_does (s : State) : Does s (execRetryWait s) :=
  does_ite_next fun h => .next (.reads _ (by simp [h.1]))

theorem execResetNRise_does (s : State) : Does s (execResetNRise s) := by
  unfold execResetNRise
  split
  · exact .next .same
  next h => exact .next (.resetRises (by simpa using h))

/-! ### The transmit side -/

theorem execTransmitAttempt_does (s : State) : Does s (execTransmitAttempt s) :=
  does_ite_next fun h => .next (.lineIdle (by simpa using h))

theorem State.returnDemand_done {s : State} {a b : Announcement} {sent : Bool} {wire : List Byte}
    (h : s.link.tx = .demand a sent wire) {line : Line} (hline : line ≠ .idle)
    (hb : a.collisions ≤ 2 → b.collisions ≤ 2) :
    Done s (({ s with link := s.link.stopDriving line } : State).returnDemand b) := by
  unfold State.returnDemand
  dsimp only
  split
  · exact .demandEnds h hline (.inr ⟨b, rfl, hb⟩) s.link.overflowDemand rfl rfl
  · exact .demandEnds h hline (.inl rfl) s.link.overflowDemand rfl rfl

theorem execFrameLost_does (s : State) : Does s (execFrameLost s) := by
  unfold execFrameLost
  split
  · exact .next .same
  next htx => exact .next (.waitsAgain htx (by decide) fun _ _ _ h => h)
  next htx => exact .next (State.returnDemand_done htx (by decide) id)

/-- A frame that has left, its records counted, and what its leaving brings (R159). -/
theorem State.afterLeaving_done {s : State} {sent : Bool} {wire : List Byte} (h : s.link.tx = .entry sent wire)
    (overflow : Bool) {r : RecordBuilder} (hqueue : r.queue = s.recs.queue) (hseq : r.seq = s.recs.seq) :
    Done s ({ s with
      link := { s.link.leave with overflowAlarm := overflow }, recs := r } : State).afterLeaving := by
  unfold State.afterLeaving
  split
  next hs => exact .leavesUnserved h hs overflow hqueue hseq
  next im hs =>
    have hleft : Event im s { s with link := { s.link.leave with overflowAlarm := overflow }, recs := r } :=
      (Change.leave h overflow).event.tail (.counts r hqueue hseq)
    exact .ends hs (hleft.trans (Event.packingTest _))

theorem execFrameCollided_does (s : State) : Does s (execFrameCollided s) := by
  unfold execFrameCollided
  split
  · exact .next .same
  next htx =>
    split
    · exact .next (State.afterLeaving_done htx s.link.overflowAlarm
        (r := { s.recs with rejected := s.recs.rejected + 1 }) rfl rfl)
    next hfew =>
      refine .next (.waitsAgain htx (by decide) fun e he hin _ => ?_)
      have hlow := hfew
      rw [List.any_eq_true] at hlow
      push Not at hlow
      have := hlow e he
      have hfew : ¬ collisionLimit ≤ e.collisions + 1 := by simpa [hin] using this
      simp only [collisionLimit] at hfew
      omega
  next htx =>
    dsimp only
    split
    · exact .next (.demandEnds htx (by decide) (.inl rfl) s.link.overflowDemand rfl rfl)
    next hfew =>
      simp only [collisionLimit] at hfew
      exact .next (State.returnDemand_done htx (by decide) fun _ => by dsimp only; omega)

theorem execFrameCompleted_does (s : State) : Does s (execFrameCompleted s) := by
  unfold execFrameCompleted
  split
  · exact .next .same
  next htx => exact .next (State.afterLeaving_done htx _ rfl rfl)
  next htx => exact .next (.demandEnds htx (by decide) (.inl rfl) _ rfl rfl)

theorem execRestartBegins_does (s : State) : Does s (execRestartBegins s) :=
  does_inService fun _ hs => does_ite_next fun _ => .next (.restarts hs)

/-! ### Flow, selector and dose -/

theorem FlowUnit.Sound.pulse {f : FlowUnit} (h : f.Sound) (idleTime : Nat) : (f.pulse idleTime).Sound := by
  obtain ⟨-, hring, hq, hv⟩ := h
  exact ⟨Nat.min_le_left _ _, hring, hq, hv⟩

theorem FlowUnit.Sound.sample {f : FlowUnit} (h : f.Sound) (litres : Nat) : (f.sample litres).Sound := by
  obtain ⟨-, hring, -, -⟩ := h
  refine ⟨Nat.zero_le _, fun i => ?_, rfl, Nat.min_le_left _ _⟩
  show (f.ring.set f.wpos (min (f.pulseCount * litres) 40000)).get i ≤ 40000
  rw [Four.get_set]
  split
  · exact Nat.min_le_right _ _
  · exact hring i

theorem State.rederiveAll_link (s : State) (im : Image) : (s.rederiveAll im).link = s.link :=
  State.rederiveAll_same State.link (fun _ _ _ => rfl) s im

theorem State.onConfigured_link {g : Fin 4 → State → Channel → Channel} (ks : List (Fin 4)) (s : State) :
    (s.forChannels ks fun k s => s.onChannel k (g k s)).link = s.link :=
  State.forChannels_same State.link (f := fun k s => s.onChannel k (g k s)) (fun _ _ => rfl) _ s

theorem execFlowPulse_does (s : State) : Does s (execFlowPulse s) := by
  refine does_inService fun im hs => ?_
  dsimp only
  split
  · exact does_event hs (.single (.rederive _ ⟨rfl, rfl, rfl⟩ fun h => h.pulse _)) (State.rederiveAll_link _ im)
  next hidle =>
    have hclear : false = s.flow.idle := by simpa using hidle
    exact does_event hs (.single (.flow _ hclear ⟨rfl, rfl, rfl⟩ fun h => h.pulse _)) rfl

theorem execIdleTimerExpiry_does (s : State) : Does s (execIdleTimerExpiry s) :=
  does_inService fun im hs => does_ite_next fun _ =>
    does_event hs (.single (.rederive s.flow.goIdle ⟨rfl, rfl, rfl⟩ fun h => h)) (State.rederiveAll_link _ im)

theorem le_advanceV {v : Nat} (h : v ≤ top48) (litres : Nat) : v ≤ advanceV v litres :=
  Nat.le_min.mpr ⟨h, Nat.le_add_right v litres⟩

/-- Work on channels that each gets anew from itself changes the channels alone. -/
theorem State.forChannels_onChannel_eq (g : Fin 4 → Channel → Channel) (ks : List (Fin 4)) (s : State) :
    (s.forChannels ks fun k s => s.onChannel k (g k)) =
      { s with channels := (s.forChannels ks fun k s => s.onChannel k (g k)).channels } :=
  State.forChannels_keeps (P := fun u => u = { s with channels := u.channels }) (f := fun k s => s.onChannel k (g k))
    (fun k _ hu => congrArg (fun x : State => x.onChannel k (g k)) hu) ks rfl

theorem execFlowSample_sampled {s t : State} (h : execFlowSample s = .next t) : t = s ∨ Sampled s t := by
  unfold execFlowSample at h
  split at h
  next => cases h; exact .inl rfl
  next im hs =>
    split at h
    next =>
      dsimp only at h
      rw [State.forChannels_onChannel_eq] at h
      cases h
      refine .inr (.samples hs im.station.litresPerPulse fun k => ?_)
      have hk := State.forChannels_onChannel
        (fun _ c => c.addVolume ((s.flow.sample im.station.litresPerPulse).v - s.flow.v)) im.configured_nodup
        { s with flow := s.flow.sample im.station.litresPerPulse } k
      by_cases hmem : k ∈ im.configured
      · exact ⟨_, hk.trans (if_pos hmem)⟩
      · exact ⟨(s.channel k).iv, hk.trans (if_neg hmem)⟩
    next => cases h; exact .inl rfl

theorem execLineChange_does (s : State) (p0 p1 p2 : Bool) : Does s (execLineChange p0 p1 p2 s) := by
  unfold execLineChange
  split
  · exact .next .same
  · dsimp only
    split
    next hs => exact .next (.lines _ hs)
    next im hs => exact does_event hs (.single (.aside _ _ s.intake s.share s.freeCount)) rfl

theorem execSettleTimerExpiry_does (s : State) : Does s (execSettleTimerExpiry s) := by
  unfold execSettleTimerExpiry
  split
  next im i hs _ =>
    refine does_ite_next fun _ => ?_
    have hadopted : Event im s { s with selector := ⟨i, none, none⟩ } :=
      .single (.aside s.psel _ s.intake s.share s.freeCount)
    exact does_event hs (hadopted.trans (Event.onConfigured (fun _ _ => .adoptSelector i) _))
      (State.onConfigured_link _ _)
  next => exact .next .same

theorem split_le {grant demand mCap : Nat} : split grant demand mCap ≤ mCap := by
  unfold split
  split
  · exact le_rfl
  next h =>
    refine Nat.div_le_of_le_mul ?_
    exact Nat.mul_le_mul_right mCap (by omega)

theorem State.setChannel_setChannel (s : State) (k : Fin 4) (a b : Channel) :
    (s.setChannel k a).setChannel k b = s.setChannel k b := by
  have h : (s.channels.set k a).set k b = s.channels.set k b :=
    Four.ext_get fun j => by simp only [Four.get_set]; split <;> rfl
  simp only [State.setChannel, h]

/-- A dose update is the work on its channel, and the grant record (R25, R76). -/
theorem State.doseUpdate_eq (s : State) (im : Image) (k g : Fin 4) (gch : Nat) :
    ((s.onChannel k (Channel.updateDose (im.channel k) s.flow.q s.flow.v)).recordGrant im g).onChannel k
        (Channel.takeGrant (im.channel k) s.flow.q s.flow.v gch) =
      { s.setChannel k (((s.channel k).updateDose (im.channel k) s.flow.q s.flow.v).takeGrant (im.channel k)
          s.flow.q s.flow.v gch) with
        share := ((s.onChannel k (Channel.updateDose (im.channel k) s.flow.q s.flow.v)).recordGrant im g).share } := by
  have h := s.setChannel_setChannel k ((s.channel k).updateDose (im.channel k) s.flow.q s.flow.v)
    (((s.channel k).updateDose (im.channel k) s.flow.q s.flow.v).takeGrant (im.channel k) s.flow.q s.flow.v gch)
  rw [State.onChannel, State.recordGrant_channel, State.channel_onChannel_same]
  exact congrArg (fun u => ({ u with
    share := ((s.onChannel k (Channel.updateDose (im.channel k) s.flow.q s.flow.v)).recordGrant im g).share }
    : State)) h

theorem execDoseUpdate_does (s : State) (k : Fin 4) : Does s (execDoseUpdate k s) := by
  refine does_inService fun im hs => does_ite_next fun h => ?_
  simp only [Bool.and_eq_true] at h
  dsimp only [State.onChannel_flow, State.recordGrant_flow]
  rw [State.doseUpdate_eq]
  refine does_event hs (.tail (.single (.channel h.1 (.doseUpdate _ ?_))) (.aside s.psel s.selector s.intake _ s.freeCount))
    rfl
  rw [State.channelGrant, State.channel_onChannel_same]
  exact split_le

/-! ### The feeder -/

theorem execStrokeIntervalExpiry_does (s : State) (k : Fin 4) : Does s (execStrokeIntervalExpiry k s) := by
  refine does_inService fun im hs => does_ite_next fun h => ?_
  simp only [Bool.and_eq_true] at h
  exact does_event hs (.single (.channel h.1 .strokeInterval)) rfl

theorem execConfirm_does (s : State) (k : Fin 4) : Does s (execConfirm k s) := by
  refine does_inService fun im hs => does_ite_next fun hk => ?_
  split
  next h => exact does_event hs (.single (.channel hk (.confirmInTime h))) rfl
  next h => exact does_event hs (.single (.channel hk (.confirmLate h))) rfl
  next => exact does_ends hs (.single (.settle _ hk .unexpected))

theorem execDeadlineExpiry_does (s : State) (k : Fin 4) : Does s (execDeadlineExpiry k s) := by
  refine does_inService fun im hs => does_ite_next fun h => ?_
  simp only [Bool.and_eq_true] at h
  dsimp only
  split
  · exact does_ends hs (.single (.settle _ h.1 .feederFault))
  · exact does_event hs (.single (.channel h.1 .miss)) rfl

theorem execGraceDeadlineExpiry_does (s : State) (k : Fin 4) : Does s (execGraceDeadlineExpiry k s) := by
  refine does_inService fun im hs => does_ite_next fun hk => ?_
  split
  next h => exact does_event hs (.single (.channel hk (.graceOver h))) rfl
  all_goals exact .next .same

/-! ### The analyzer line and protection -/

theorem execAnalyzerMessage_does (s : State) (m : SampleMessage) : Does s (execAnalyzerMessage m s) :=
  does_inService fun _ hs => does_ends hs (Event.arrival s m)

theorem execReceivedByteOnAnz_does (s : State) (b : Byte) : Does s (execReceivedByteOnAnz b s) := by
  refine does_inService fun im hs => ?_
  have hpushed : Does s (.next { s with intake := s.intake.push b }) :=
    does_event hs (.single (.aside s.psel s.selector _ s.share s.freeCount)) rfl
  split
  · exact does_ite_next fun _ => hpushed
  · split
    · exact hpushed
    · exact does_ends hs (Event.arrival s _)

theorem State.countNotGood_link (s : State) (im : Image) (a : Fin 8) : (s.countNotGood im a).link = s.link :=
  State.onConfigured_link _ s

theorem execMessageGap_does (s : State) : Does s (execMessageGap s) := by
  refine does_inService fun im hs => does_ite_next fun _ => ?_
  refine does_event hs ((Event.closeIntake s).trans (Event.countRejected _ _)) ?_
  unfold State.countRejected
  split
  · exact State.countNotGood_link _ im _
  · rfl

theorem execFreshnessTimerExpiry_does (s : State) (a : Fin 8) : Does s (execFreshnessTimerExpiry a s) := by
  refine does_inService fun im hs => does_ite_next fun _ => does_ends hs ?_
  refine .trans (.single (.aside s.psel s.selector _ s.share s.freeCount)) (Event.forChannels (fun k hk t => ?_) _)
  exact .single (.settle _ (Image.mem_mapped.mp hk).1 .stale)

theorem execAlertTimerExpiry_does (s : State) (k : Fin 4) (w : ResidualCondition) :
    Does s (execAlertTimerExpiry k w s) := by
  refine does_inService fun im hs => does_ite_next fun h => ?_
  simp only [Bool.and_eq_true] at h
  exact does_ends hs (.single (.settle _ h.1.1 (.raise w)))

theorem execRunOnTimerExpiry_does (s : State) (k : Fin 4) : Does s (execRunOnTimerExpiry k s) := by
  refine does_inService fun im hs => does_ite_next fun h => ?_
  simp only [Bool.and_eq_true] at h
  exact does_event hs (.single (.settle _ h.1.1 .runOnOver)) rfl

theorem execQuietTimerExpiry_does (s : State) (k : Fin 4) : Does s (execQuietTimerExpiry k s) := by
  refine does_inService fun im hs => does_ite_next fun h => ?_
  simp only [Bool.and_eq_true] at h
  exact does_event hs (.single (.channel h.1 .quietOver)) rfl

/-! ### Stations and frames -/

theorem agePeers_mem {t : List PeerEntry} {e : PeerEntry} :
    e ∈ agePeers t ↔ ∃ x ∈ t, x.age < 5 ∧ e = { x with age := x.age + 1 } := by
  simp only [agePeers, removalAge, List.mem_filter, List.mem_map]
  constructor
  · rintro ⟨⟨x, hx, rfl⟩, hage⟩
    exact ⟨x, hx, Nat.lt_of_succ_lt_succ (of_decide_eq_true hage), rfl⟩
  · rintro ⟨x, hx, hage, rfl⟩
    exact ⟨⟨x, hx, rfl⟩, decide_eq_true (Nat.succ_lt_succ hage)⟩

theorem agePeers_pairwise {t : List PeerEntry} (h : t.Pairwise fun a b => a.number < b.number) :
    (agePeers t).Pairwise fun a b => a.number < b.number :=
  .filter _ (List.pairwise_map.mpr h)

theorem ageSlot_eq_some {slot : Option CapacitySlot} {y : CapacitySlot} :
    ageSlot slot = some y ↔ ∃ x, slot = some x ∧ x.age < 5 ∧ y = { x with age := x.age + 1 } := by
  unfold ageSlot removalAge
  cases slot with
  | none => simp
  | some x =>
    have hage : x.age + 1 < 6 ↔ x.age < 5 := Nat.succ_lt_succ_iff
    by_cases hx : x.age < 5 <;> simp [hage, hx, eq_comm]

theorem PeerView.expire_table (p : PeerView) (im : Image) : (p.expire im).table = agePeers p.table := by
  unfold PeerView.expire PeerView.updateSilence
  dsimp only
  split <;> rfl

theorem PeerView.expire_capacity (p : PeerView) (im : Image) : (p.expire im).capacity = ageCapacity p.capacity := by
  unfold PeerView.expire PeerView.updateSilence
  dsimp only
  split <;> rfl

theorem PeerView.TableLaw.aged {p q : PeerView} {own : Nat} (h : p.TableLaw own) (hq : q.table = agePeers p.table) :
    q.TableLaw own := by
  obtain ⟨hpair, hall⟩ := h
  unfold PeerView.TableLaw
  rw [hq]
  refine ⟨agePeers_pairwise hpair, fun e he => ?_⟩
  obtain ⟨x, hx, hage, rfl⟩ := agePeers_mem.mp he
  obtain ⟨hnum, hown, hw, hw', -⟩ := hall x hx
  exact ⟨hnum, hown, hw, hw', hage⟩

theorem GroupSlots.Law.aged {g : GroupSlots} {maximum : Nat} (h : g.Law maximum) :
    (GroupSlots.mk (ageSlot g.slot0) (ageSlot g.slot1)).Law maximum := by
  obtain ⟨hall, htwo⟩ := h
  refine ⟨fun y hy => ?_, fun y z hy hz => ?_⟩
  · rcases hy with hy | hy <;> obtain ⟨x, hx, hage, rfl⟩ := ageSlot_eq_some.mp hy
    · exact ⟨hage, (hall x (.inl hx)).2⟩
    · exact ⟨hage, (hall x (.inr hx)).2⟩
  · obtain ⟨x, hx, -, rfl⟩ := ageSlot_eq_some.mp hy
    obtain ⟨w, hw, -, rfl⟩ := ageSlot_eq_some.mp hz
    exact htwo x w hx hw

theorem execAnnounceExpiry_does (s : State) : Does s (execAnnounceExpiry s) := by
  refine does_inService fun im hs => does_ite_next fun _ => does_ends hs ?_
  have hexpired : Event im s { s with peer := s.peer.expire im } :=
    .single (.peer _ (fun h => h.aged (PeerView.expire_table _ _)) fun g h => by
      rw [PeerView.expire_capacity, ageCapacity, Four.get_ofFn]; exact h.aged)
  have hstepped := hexpired.trans (Event.stationStep _)
  split
  · exact hstepped.tail .announce
  · exact hstepped

theorem mem_upsertPeer {e x : PeerEntry} {t : List PeerEntry} (h : x ∈ upsertPeer e t) : x = e ∨ x ∈ t := by
  induction t with
  | nil => simpa [upsertPeer] using h
  | cons y ys ih =>
    unfold upsertPeer at h
    split at h
    · simpa using h
    · split at h
      · rcases List.mem_cons.mp h with h | h
        · exact .inl h
        · exact .inr (List.mem_cons_of_mem _ h)
      · rcases List.mem_cons.mp h with h | h
        · exact .inr (h ▸ List.mem_cons_self)
        · exact (ih h).imp_right (List.mem_cons_of_mem _)

theorem upsertPeer_pairwise {e : PeerEntry} {t : List PeerEntry} (h : t.Pairwise fun a b => a.number < b.number) :
    (upsertPeer e t).Pairwise fun a b => a.number < b.number := by
  induction t with
  | nil => simp [upsertPeer]
  | cons y ys ih =>
    obtain ⟨hy, hys⟩ := List.pairwise_cons.mp h
    unfold upsertPeer
    split
    next hlt =>
      refine List.pairwise_cons.mpr ⟨fun x hx => ?_, h⟩
      rcases List.mem_cons.mp hx with rfl | hx
      · exact hlt
      · exact hlt.trans (hy x hx)
    next hge =>
      split
      next heq => exact List.pairwise_cons.mpr ⟨fun x hx => heq ▸ hy x hx, hys⟩
      next hne =>
        refine List.pairwise_cons.mpr ⟨fun x hx => ?_, ih hys⟩
        rcases mem_upsertPeer hx with rfl | hx
        · omega
        · exact hy x hx

theorem one_le_heldWeight (w : Nat) : 1 ≤ heldWeight w ∧ heldWeight w ≤ 15 := by
  unfold heldWeight; split_ifs <;> omega

theorem GroupSlots.Law.place {g : GroupSlots} {maximum : Nat} (h : g.Law maximum) {x : CapacitySlot}
    (hage : x.age ≤ 5) (hcap : x.capacity ≤ maximum) : (g.place x).Law maximum := by
  obtain ⟨s0, s1⟩ := g
  obtain ⟨hall, htwo⟩ := h
  dsimp only at hall htwo
  unfold GroupSlots.place
  dsimp only
  have hother : ∀ {slot : Option CapacitySlot}, ¬ holdsSource slot x.source = true →
      ∀ y, slot = some y → y.source ≠ x.source := by
    rintro slot hno y rfl heq
    exact hno (by simp [holdsSource, heq])
  have hone : ∀ {slot : Option CapacitySlot}, (∀ y, slot = some y → y.source ≠ x.source) →
      (∀ y, slot = some y → y.age ≤ 5 ∧ y.capacity ≤ maximum) →
      (GroupSlots.mk (some x) slot).Law maximum ∧ (GroupSlots.mk slot (some x)).Law maximum := by
    intro slot hne hslot
    refine ⟨⟨?_, ?_⟩, ⟨?_, ?_⟩⟩
    · rintro y (hy | hy)
      · cases hy; exact ⟨hage, hcap⟩
      · exact hslot y hy
    · rintro y z hy hz; cases hy; exact (hne z hz).symm
    · rintro y (hy | hy)
      · exact hslot y hy
      · cases hy; exact ⟨hage, hcap⟩
    · rintro y z hy hz; cases hz; exact hne y hy
  have h0 : ∀ y, s0 = some y → y.age ≤ 5 ∧ y.capacity ≤ maximum := fun y hy => hall y (.inl hy)
  have h1 : ∀ y, s1 = some y → y.age ≤ 5 ∧ y.capacity ≤ maximum := fun y hy => hall y (.inr hy)
  split
  next hin =>
    obtain ⟨z, hz, hsrc⟩ : ∃ z, s0 = some z ∧ z.source = x.source := by
      cases s0 <;> simp_all [holdsSource]
    exact (hone (fun y hy => hsrc ▸ (htwo z y hz hy).symm) h1).1
  next hout0 =>
    split
    next hin => exact (hone (hother hout0) h0).2
    next hout1 =>
      split
      · exact (hone (hother hout1) h1).1
      · exact (hone (hother hout0) h0).2
      · split
        · exact (hone (hother hout0) h0).2
        · exact (hone (hother hout1) h1).1

theorem execDemandFrame_does (s : State) (src dst weight state flags : Byte) (demand : Four Word) :
    Does s (execDemandFrame src dst weight state flags demand s) := by
  refine does_inService fun im hs => does_receive hs src fun hown u => ?_
  split
  next hsrc =>
    refine .single (.peer _ (fun h => ?_) fun _ h => h)
    obtain ⟨hpair, hall⟩ := h
    refine ⟨upsertPeer_pairwise hpair, fun e he => ?_⟩
    rcases mem_upsertPeer he with rfl | he
    · have hne : src.toNat ≠ im.station.number := by simpa [Image.ownSource] using hown
      exact ⟨hsrc, hne, (one_le_heldWeight _).1, (one_le_heldWeight _).2, Nat.zero_le _⟩
    · exact hall e he
  next => exact .refl

theorem execSupplyFrame_does (s : State) (src dst group : Byte) (capacity : Word) :
    Does s (execSupplyFrame src dst group capacity s) := by
  refine does_inService fun im hs => does_receive hs src fun _ u => ?_
  split
  next g _ =>
    split
    · refine .single (.peer _ (fun h => h) fun j h => ?_)
      dsimp only
      rw [Four.get_set]
      split
      next hj => exact (hj ▸ h : (u.peer.capacity.get g).Law _).place (Nat.zero_le _) (hj ▸ Nat.min_le_right _ _)
      next => exact h
    · exact .refl
  next => exact .refl

theorem execConflictFrame_does (s : State) : Does s (execConflictFrame s) := by
  refine does_inService fun im hs => does_ite_next fun hlistens => does_ends hs ?_
  obtain ⟨htx, -⟩ := Link.listens_iff.mp hlistens
  exact (Event.countAccepted htx).trans (Event.conflict (by simp) (by simpa using htx))

theorem execOtherFrame_does (s : State) (src kind dst : Byte) : Does s (execOtherFrame src kind dst s) :=
  does_inService fun _ hs => does_receive hs src fun _ _ => .refl

theorem execLinkReject_does (s : State) (bytes : List Byte) : Does s (execLinkReject bytes s) := by
  refine does_inService fun im hs => ?_
  split
  · exact .next .same
  next h =>
    have hlistens : s.link.listens = true := by
      rw [Bool.or_eq_true, not_or] at h
      simpa using h.2
    obtain ⟨htx, -⟩ := Link.listens_iff.mp hlistens
    exact .next (.event hs (.tail (.single (.driven htx)) (.counts _ rfl rfl)) rfl)

/-! ### The requests -/

theorem execTarget_does (s : State) (src dst tag ch flags : Byte) (value : Half) :
    Does s (execTarget src dst tag ch flags value s) :=
  does_inService fun _ hs => does_request hs src dst fun u =>
    Event.onNamed u src tag 6 ch _ fun _ hk => .tail (.single (.channel hk (.target _ _))) (.enqueue _)

theorem execProfile_does (s : State) (src dst tag ch flags index : Byte) :
    Does s (execProfile src dst tag ch flags index s) := by
  refine does_inService fun _ hs => does_request hs src dst fun u => ?_
  refine Event.onNamed u src tag 7 ch _ fun _ hk => ?_
  split
  · exact .single (.enqueue _)
  · exact .tail (.single (.channel hk (.profile _ _ _))) (.enqueue _)

theorem execCeiling_does (s : State) (src dst tag ch : Byte) (value : Half) :
    Does s (execCeiling src dst tag ch value s) :=
  does_inService fun _ hs => does_request hs src dst fun u =>
    Event.onNamed u src tag 8 ch _ fun _ hk => .tail (.single (.channel hk (.ceiling _))) (.enqueue _)

theorem execFreeze_does (s : State) (src dst tag ch : Byte) : Does s (execFreeze src dst tag ch s) :=
  does_inService fun _ hs => does_request hs src dst fun u =>
    Event.onNamed u src tag 9 ch _ fun _ hk => .tail (.single (.channel hk .freeze)) (.enqueue _)

theorem execCommit_does (s : State) (src dst : Byte) : Does s (execCommit src dst s) := by
  refine does_inService fun _ hs => does_receive hs src fun _ u => ?_
  split
  · exact Event.onConfigured (fun _ _ => .commit _) u
  · exact .refl

theorem execClearFeeder_does (s : State) (src dst tag ch : Byte) : Does s (execClearFeeder src dst tag ch s) :=
  does_inService fun _ hs => does_request hs src dst fun u =>
    Event.onNamed u src tag 11 ch _ fun _ hk => .tail (Event.takeClearFeeder u hk) (.enqueue _)

theorem execRelease_does (s : State) (src dst tag ch : Byte) : Does s (execRelease src dst tag ch s) :=
  does_inService fun _ hs => does_request hs src dst fun u =>
    Event.onNamed u src tag 12 ch _ fun _ hk => .tail (Event.takeRelease u hk) (.enqueue _)

theorem execRestart_does (s : State) (src dst tag : Byte) : Does s (execRestart src dst tag s) :=
  does_inService fun _ hs => does_request hs src dst fun _ => .single (.awaitRestart src tag)

theorem execFlush_does (s : State) (src dst : Byte) : Does s (execFlush src dst s) :=
  does_inService fun _ hs => does_request hs src dst fun u => Event.packWhile 3 1 queueCapacity u

theorem execQuery_does (s : State) (src dst tag subject p1 p2 : Byte) :
    Does s (execQuery src dst tag subject p1 p2 s) :=
  does_inService fun _ hs => does_request hs src dst fun _ => .single (.enqueue _)

/-! ### Reports -/

theorem execPackingTest_does (s : State) : Does s (execPackingTest s) :=
  does_inService fun im hs => .next (.event hs (Event.packingTest s) (s.packingTest_awaitedLeft im))

theorem Event.closeInterval {im : Image} (s : State) {k : Fin 4} (hk : (im.channel k).configured = true) :
    Event im s (s.closeInterval k) :=
  .tail (.single (.record _ rfl)) (.channel hk (.figures _))

theorem execReportTimerExpiry_does (s : State) : Does s (execReportTimerExpiry s) := by
  refine does_inService fun im hs => does_ite_next fun _ => ?_
  have hclosed : Event im s (s.forChannels im.configured fun k s => s.closeInterval k) :=
    Event.forChannels (fun k hk t => Event.closeInterval t (Image.mem_configured.mp hk)) s
  have hlink : (s.forChannels im.configured fun k s => s.closeInterval k).link = s.link :=
    State.forChannels_same State.link (f := fun k s => s.closeInterval k) (fun _ _ => rfl) _ s
  dsimp only
  generalize s.forChannels im.configured (fun k s => s.closeInterval k) = u at hclosed hlink
  have hcounted : Event im s { u with
      recs := { u.recs.updateHealth s.channels with timer := startS im.station.reportInterval } } :=
    hclosed.tail (.counts _ rfl rfl)
  refine .next (.event hs (hcounted.trans (Event.packingTest _)) ?_)
  rw [State.packingTest_awaitedLeft]
  exact congrArg Link.awaitedLeft hlink

/-! ### Every command, and every step -/

theorem exec_does {i : Instr} (hi : i ≠ .flowSample) (s : State) : Does s (exec i s) := by
  cases i with
  | pinReset => exact .next .pinReset
  | resetNRise => exact execResetNRise_does s
  | readTransaction => exact execReadTransaction_does s _
  | transactionTimeout => exact execTransactionTimeout_does s
  | retryWait => exact execRetryWait_does s
  | restartBegins => exact execRestartBegins_does s
  | flowPulse => exact execFlowPulse_does s
  | flowSample => exact absurd rfl hi
  | idleTimerExpiry => exact execIdleTimerExpiry_does s
  | lineChange => exact execLineChange_does s ..
  | settleTimerExpiry => exact execSettleTimerExpiry_does s
  | doseUpdate => exact execDoseUpdate_does s _
  | analyzerMessage => exact execAnalyzerMessage_does s _
  | messageGap => exact execMessageGap_does s
  | freshnessTimerExpiry => exact execFreshnessTimerExpiry_does s _
  | alertTimerExpiry => exact execAlertTimerExpiry_does s ..
  | runOnTimerExpiry => exact execRunOnTimerExpiry_does s _
  | quietTimerExpiry => exact execQuietTimerExpiry_does s _
  | strokeIntervalExpiry => exact execStrokeIntervalExpiry_does s _
  | confirm => exact execConfirm_does s _
  | deadlineExpiry => exact execDeadlineExpiry_does s _
  | graceDeadlineExpiry => exact execGraceDeadlineExpiry_does s _
  | announceExpiry => exact execAnnounceExpiry_does s
  | demandFrame src dst weight state flags demand => exact execDemandFrame_does s src dst weight state flags demand
  | supplyFrame src dst group capacity => exact execSupplyFrame_does s src dst group capacity
  | conflictFrame => exact execConflictFrame_does s
  | otherFrame src kind dst => exact execOtherFrame_does s src kind dst
  | linkReject => exact execLinkReject_does s _
  | target => exact execTarget_does s ..
  | profile => exact execProfile_does s ..
  | ceiling => exact execCeiling_does s ..
  | freeze => exact execFreeze_does s ..
  | commit => exact execCommit_does s ..
  | clearFeeder => exact execClearFeeder_does s ..
  | release => exact execRelease_does s ..
  | restart => exact execRestart_does s ..
  | flush => exact execFlush_does s ..
  | query => exact execQuery_does s ..
  | transmitAttempt => exact execTransmitAttempt_does s
  | frameLost => exact execFrameLost_does s
  | frameCollided => exact execFrameCollided_does s
  | frameCompleted => exact execFrameCompleted_does s
  | reportTimerExpiry => exact execReportTimerExpiry_does s
  | packingTest => exact execPackingTest_does s
  | receivedByteOnAnz => exact execReceivedByteOnAnz_does s _

theorem exec_done {i : Instr} {s t : State} (hi : i ≠ .flowSample) (h : exec i s = .next t) : Done s t :=
  (h ▸ exec_does hi s : Does s (.next t)).done

theorem exec_cases {i : Instr} {s t : State} (h : exec i s = .next t) : Done s t ∨ Sampled s t := by
  by_cases hi : i = .flowSample
  · subst hi
    rcases execFlowSample_sampled h with rfl | hsampled
    · exact .inl .same
    · exact .inr hsampled
  · exact .inl (exec_done hi h)

/-- A step lets a millisecond pass, or is what a command does in the state with other commands waiting or one free
choice more read. -/
theorem step_cases {s t : State} (h : step s = .next t) :
    t = s.elapse ∨ ∃ pending freeCount, Done { s with pending := pending, freeCount := freeCount } t ∨
      Sampled { s with pending := pending, freeCount := freeCount } t := by
  unfold step at h
  split at h
  next rest _ => exact .inr ⟨rest, s.freeCount, exec_cases h⟩
  next =>
    split at h
    next s' hnext =>
      rcases nextExpiry_state hnext with rfl | rfl
      · exact .inr ⟨s'.pending, s'.freeCount, exec_cases h⟩
      · exact .inr ⟨s.pending, s.freeCount + 1, exec_cases h⟩
    next =>
      cases h
      exact .inl rfl

end Sys2Proof.Machine
end

section
/-! The phases of the part (Chapter 11): what the resets, the load and HALTED leave held, and the statement that every step
keeps the part in phase. -/

namespace Sys2Proof.Machine

/-! ### Blocks held -/

theorem Supervisor.heldForRestart_resting (p : Supervisor) (locked : Bool) : (p.heldForRestart locked).Resting :=
  ⟨rfl, rfl, rfl, rfl, rfl, rfl⟩

theorem State.pinReset_channel (s : State) (k : Fin 4) : s.pinReset.channel k = Channel.held := Four.get_all _ k

theorem State.beginRestart_channel (s : State) (k : Fin 4) :
    s.beginRestart.channel k = (s.channel k).heldForRestart :=
  Four.get_ofFn _ k

theorem State.halt_channel (s : State) (k : Fin 4) : s.halt.channel k = (s.channel k).inhibit := Four.get_ofFn _ k

theorem State.enterService_channel (s : State) (im : Image) (k : Fin 4) :
    (s.enterService im).channel k = (s.channel k).loaded (im.channel k) (s.sameKind im k)
      (lineIndex s.psel.1 s.psel.2.1 s.psel.2.2) k :=
  Four.get_ofFn _ k

theorem State.elapse_channel (s : State) (k : Fin 4) : s.elapse.channel k = (s.channel k).elapse := Four.get_ofFn _ k

theorem State.pinReset_blocksHeld (s : State) : s.pinReset.BlocksHeld := by
  refine ⟨rfl, rfl, rfl, rfl, rfl, rfl, rfl, rfl, ⟨rfl, rfl, rfl, rfl, rfl⟩, rfl, fun k => ?_⟩
  rw [s.pinReset_channel k]
  exact ⟨rfl, rfl, rfl, rfl, rfl, rfl, rfl, rfl, rfl⟩

theorem State.beginRestart_blocksHeld (s : State) : s.beginRestart.BlocksHeld := by
  refine ⟨rfl, rfl, rfl, rfl, rfl, rfl, rfl, rfl, ⟨rfl, rfl, rfl, rfl, rfl⟩, rfl, fun k => ?_⟩
  rw [s.beginRestart_channel k]
  exact ⟨rfl, rfl, rfl, Supervisor.heldForRestart_resting _ _⟩

/-- HALTED asserts each inhibit, which a held Feeder Drive has asserted, and moves no block (R106, R167). -/
theorem State.BlocksHeld.halt {s : State} (h : s.BlocksHeld) : s.halt.BlocksHeld := by
  obtain ⟨hflow, hselector, hintake, hpeer, hshare, hlink, htimer, hqueue, hcounts, hpending, hchannels⟩ := h
  refine ⟨hflow, hselector, hintake, hpeer, hshare, hlink, htimer, hqueue, hcounts, hpending, fun k => ?_⟩
  obtain ⟨hdose, hfeeder, hiv, hsup⟩ := hchannels k
  rw [s.halt_channel k]
  exact ⟨hdose, by rw [Channel.inhibit, hfeeder]; rfl, hiv, hsup⟩

/-- A millisecond moves no block that is held: its timers are stopped. -/
theorem State.BlocksHeld.elapse {s : State} (h : s.BlocksHeld) : s.elapse.BlocksHeld := by
  obtain ⟨hflow, hselector, hintake, hpeer, hshare, hlink, htimer, hqueue, hcounts, hpending, hchannels⟩ := h
  refine ⟨?_, ?_, ?_, ?_, hshare, hlink, ?_, hqueue, hcounts, hpending, fun k => ?_⟩
  · simp only [State.elapse, hflow]; rfl
  · simp only [State.elapse, hselector]; rfl
  · simp only [State.elapse, hintake]; rfl
  · simp only [State.elapse, hpeer]; rfl
  · simp only [State.elapse, htimer]; rfl
  · obtain ⟨hdose, hfeeder, hiv, hL, hH, hHH, hrunOn, hquiet, hresidual⟩ := hchannels k
    rw [s.elapse_channel k]
    refine ⟨?_, ?_, hiv, ?_, ?_, ?_, ?_, ?_, hresidual⟩ <;>
      simp only [Channel.elapse, hdose, hfeeder, hL, hH, hHH, hrunOn, hquiet] <;> rfl

/-! ### Sound phases -/

namespace State.PhaseSound

variable {s : State}

/-- A read is in hand only in LOAD, with RESET_N high. -/
theorem of_reading (h : s.PhaseSound) (hphase : s.loader.phase ≠ .idle) : s.stn = .load ∧ s.resetN = true := by
  obtain ⟨hreset, hload, -⟩ := h
  refine ⟨hload hphase, ?_⟩
  cases hr : s.resetN with
  | true => rfl
  | false => exact absurd (hreset hr).2 hphase

theorem blocksHeld_of_reading (h : s.PhaseSound) (hphase : s.loader.phase ≠ .idle) : s.BlocksHeld := by
  obtain ⟨-, -, -, -, -, hheld⟩ := id h
  exact hheld (by rw [(h.of_reading hphase).1]; rfl)

theorem blocksHeld_of_service (h : s.PhaseSound) (hs : s.service = none) : s.BlocksHeld := by
  obtain ⟨-, -, hconfig, -, -, hheld⟩ := h
  refine hheld ?_
  by_contra hserves
  rw [Bool.not_eq_false] at hserves
  have hsome := hconfig hserves
  rw [State.service, if_pos hserves] at hs
  rw [hs] at hsome
  cases hsome

theorem valid (h : s.PhaseSound) {im : Image} (hs : s.service = some im) : im.valid = true := by
  obtain ⟨-, -, -, -, hvalid, -⟩ := h
  exact hvalid im (service_eq_some.mp hs).2

theorem of_service (h : s.PhaseSound) {im : Image} (hs : s.service = some im) :
    s.resetN = true ∧ s.loader.phase = .idle := by
  obtain ⟨hreset, hload, -⟩ := h
  have hserves := (service_eq_some.mp hs).1
  constructor
  · cases hr : s.resetN with
    | true => rfl
    | false => simp [(hreset hr).1, StationState.inService] at hserves
  · by_contra hphase
    simp [hload hphase, StationState.inService] at hserves

/-- A state of service with the image, RESET_N and the Loader of one that is in phase. -/
theorem served (h : s.PhaseSound) {t : State} {im : Image} (hs : s.service = some im) (ht : t.service = some im)
    (hreset : t.resetN = s.resetN) (hloader : t.loader = s.loader) : t.PhaseSound := by
  obtain ⟨hserves, hconfig⟩ := service_eq_some.mp ht
  obtain ⟨hhigh, hidle⟩ := h.of_service hs
  refine ⟨fun hr => ?_, fun hp => ?_, fun _ => by simp [hconfig], fun hhalt => ?_, fun i hi => ?_, fun hno => ?_⟩
  · simp [hreset, hhigh] at hr
  · exact absurd (hloader ▸ hidle) hp
  · simp [hhalt, StationState.inService] at hserves
  · rw [hconfig] at hi; cases hi; exact h.valid hs
  · simp [hserves] at hno

/-- The same phase, with the blocks held where they were. -/
theorem of_same (h : s.PhaseSound) {t : State} (hreset : t.resetN = s.resetN) (hstn : t.stn = s.stn)
    (hphase : t.loader.phase = s.loader.phase) (hconfig : t.config = s.config)
    (hblocks : s.stn.inService = false → s.BlocksHeld → t.BlocksHeld) : t.PhaseSound := by
  obtain ⟨hlow, hload, hserved, hhalted, hvalid, hheld⟩ := h
  exact ⟨by rw [hreset, hstn, hphase]; exact hlow, by rw [hphase, hstn]; exact hload,
    by rw [hstn, hconfig]; exact hserved, by rw [hstn, hconfig]; exact hhalted, by rw [hconfig]; exact hvalid,
    fun hno => hblocks (hstn ▸ hno) (hheld (hstn ▸ hno))⟩

theorem beginRestart (h : s.PhaseSound) {im : Image} (hs : s.service = some im) : s.beginRestart.PhaseSound := by
  obtain ⟨-, -, -, -, hvalid, -⟩ := id h
  refine ⟨fun hr => ?_, fun _ => rfl, nofun, nofun, hvalid, fun _ => s.beginRestart_blocksHeld⟩
  have := (h.of_service hs).1
  simp_all [State.beginRestart]

theorem settleRestart (h : s.PhaseSound) {im : Image} (hs : s.service = some im) : s.settleRestart.PhaseSound := by
  rcases s.settleRestart_cases with ⟨-, hsame⟩ | ⟨-, -, hbegins⟩ | ⟨-, -, hmark⟩
  · rwa [hsame]
  · rw [hbegins]; exact h.beginRestart hs
  · rw [hmark]; exact h.served hs hs rfl rfl

theorem halt (h : s.PhaseSound) (hphase : s.loader.phase ≠ .idle) : s.halt.PhaseSound := by
  refine ⟨fun hr => ?_, fun hp => absurd rfl hp, nofun, fun _ => rfl,
    fun _ hi => (Option.some_ne_none _ hi.symm).elim,
    fun _ => (h.blocksHeld_of_reading hphase).halt⟩
  exact absurd ((h.of_reading hphase).2.symm.trans hr) (by decide)

theorem enterService (h : s.PhaseSound) (hphase : s.loader.phase ≠ .idle) {im : Image} (hv : im.valid = true) :
    (s.enterService im).PhaseSound := by
  refine ⟨fun hr => ?_, fun hp => absurd rfl hp, fun _ => rfl, nofun, fun i hi => ?_, nofun⟩
  · exact absurd ((h.of_reading hphase).2.symm.trans hr) (by decide)
  · cases hi; exact hv

theorem elapse (h : s.PhaseSound) : s.elapse.PhaseSound :=
  h.of_same (by rfl) (by rfl) (by rfl) (by rfl) fun _ hheld => hheld.elapse

/-- Outside service the transmitter drives nothing. -/
theorem not_driving (h : s.PhaseSound) (hno : s.stn.inService = false) : s.link.tx = .idle := by
  obtain ⟨-, -, -, -, -, hheld⟩ := h
  obtain ⟨-, -, -, -, -, hlink, -⟩ := hheld hno
  rw [hlink]; rfl

end State.PhaseSound

/-- Every command keeps the part in phase. -/
theorem Done.phaseSound {s t : State} (hd : Done s t) (h : s.PhaseSound) : t.PhaseSound := by
  have hdriving : s.link.tx ≠ .idle → s.stn.inService = true := by
    intro htx
    by_contra hno
    exact htx (h.not_driving (by simpa using hno))
  cases hd with
  | same => exact h
  | pinReset =>
    exact ⟨fun _ => ⟨rfl, rfl⟩, fun hp => absurd rfl hp, nofun, nofun,
      fun _ hi => (Option.some_ne_none _ hi.symm).elim, fun _ => s.pinReset_blocksHeld⟩
  | resetRises hlow =>
    obtain ⟨hreset, -, hserved, hhalted, hvalid, hheld⟩ := h
    exact ⟨nofun, fun _ => (hreset hlow).1, hserved, hhalted, hvalid, hheld⟩
  | reads l hphase =>
    obtain ⟨hstn, hhigh⟩ := h.of_reading hphase
    obtain ⟨-, -, hserved, hhalted, hvalid, hheld⟩ := h
    exact ⟨fun hr => absurd (hhigh.symm.trans hr) (by decide), fun _ => hstn, hserved, hhalted, hvalid, hheld⟩
  | halts hphase => exact h.halt hphase
  | loads hphase hv => exact h.enterService hphase hv
  | lines => exact h.of_same (by rfl) (by rfl) (by rfl) (by rfl) fun _ hheld => hheld
  | lineIdle =>
    refine h.of_same (by rfl) (by rfl) (by rfl) (by rfl) fun hno hheld => ?_
    obtain ⟨hflow, hselector, hintake, hpeer, hshare, hlink, hrest⟩ := hheld
    have hservice : s.service = none := by simp [State.service, hno]
    refine ⟨hflow, hselector, hintake, hpeer, hshare, ?_, hrest⟩
    simp only [hservice, Option.isSome_none, Bool.false_and, Bool.false_eq_true, if_false]
    rw [hlink]; rfl
  | waitsAgain htx =>
    exact h.of_same (by rfl) (by rfl) (by rfl) (by rfl) fun hno _ => absurd (hdriving (by simp [htx])) (by simp [hno])
  | demandEnds htx =>
    exact h.of_same (by rfl) (by rfl) (by rfl) (by rfl) fun hno _ => absurd (hdriving (by simp [htx])) (by simp [hno])
  | leavesUnserved htx =>
    exact h.of_same (by rfl) (by rfl) (by rfl) (by rfl) fun hno _ => absurd (hdriving (by simp [htx])) (by simp [hno])
  | restarts hs => exact h.beginRestart hs
  | event hs he =>
    obtain ⟨ht, hreset, hloader, -⟩ := he.keeps (P := fun _ => True) (fun _ _ _ _ _ => trivial) hs trivial
    exact h.served hs ht hreset hloader
  | ends hs he =>
    obtain ⟨ht, hreset, hloader, -⟩ := he.keeps (P := fun _ => True) (fun _ _ _ _ _ => trivial) hs trivial
    exact (h.served hs ht hreset hloader).settleRestart ht

theorem Sampled.phaseSound {s t : State} (hd : Sampled s t) (h : s.PhaseSound) : t.PhaseSound := by
  cases hd with
  | samples hs => exact h.served hs hs rfl rfl

/-! ### The statement -/

/-- Settles O53: each outcome that a command can have keeps the part in phase, and a millisecond moves only timers. -/
theorem thePhasesStaySound : Obligations.ThePhasesStaySound := by
  intro s t h hstep
  rcases step_cases hstep with rfl | ⟨_, _, hd | hd⟩
  · exact h.elapse
  · exact hd.phaseSound h
  · exact hd.phaseSound h

end Sys2Proof.Machine
end

section
/-! Laws of one channel: what a channel is after an event on it, and the schema by which a law that every work on a channel
and every event on one keeps is kept by every event of service. -/

namespace Sys2Proof.Machine

/-! ### Channels after events on them -/

theorem State.settleChannel_flow (s : State) (im : Image) (k : Fin 4) (after : Channel) (cause : Option AlarmCause) :
    (s.settleChannel im k after cause).flow = s.flow :=
  s.settleChannel_same State.flow (fun _ _ _ => rfl) (fun _ _ => rfl) im k after cause

/-- An event on a channel makes it the supervised one and leaves the others (R112). -/
theorem State.settleChannel_channel (s : State) (im : Image) (k j : Fin 4) (after : Channel)
    (cause : Option AlarmCause) : (s.settleChannel im k after cause).channel j =
      if j = k then supervise (im.channel k) s.flow.v s.flow.idle (s.channel k) after else s.channel j := by
  rcases s.settleChannel_eq im k after cause with h | ⟨b, h⟩ <;> rw [h] <;> exact s.channel_setChannel k j _

/-- Events on several channels: each channel of the list is supervised once, from what it was before them. -/
theorem State.forChannels_settleChannel (im : Image) (after : Fin 4 → Nat → Channel → Channel)
    (cause : Fin 4 → Option AlarmCause) {ks : List (Fin 4)} (hn : ks.Nodup) (s : State) (j : Fin 4) :
    (s.forChannels ks fun k s => s.settleChannel im k (after k s.flow.v (s.channel k)) (cause k)).channel j =
      if j ∈ ks then supervise (im.channel j) s.flow.v s.flow.idle (s.channel j) (after j s.flow.v (s.channel j))
      else s.channel j := by
  unfold State.forChannels
  induction ks generalizing s with
  | nil => simp
  | cons k ks ih =>
    obtain ⟨hk, hks⟩ := List.nodup_cons.mp hn
    rw [List.foldl_cons, ih hks, State.settleChannel_flow, State.settleChannel_channel]
    by_cases hj : j = k
    · subst hj; simp [hk]
    · simp [hj]

theorem State.rederiveAll_channel (s : State) (im : Image) (j : Fin 4) : (s.rederiveAll im).channel j =
    if (im.channel j).configured then supervise (im.channel j) s.flow.v s.flow.idle (s.channel j) (s.channel j)
    else s.channel j := by
  have h := State.forChannels_settleChannel im (fun _ _ c => c) (fun _ => none) im.configured_nodup s j
  simp only [Image.mem_configured] at h
  exact h

theorem State.rederiveAll_flow (s : State) (im : Image) : (s.rederiveAll im).flow = s.flow :=
  State.rederiveAll_same State.flow (fun _ _ _ => rfl) s im

/-! ### The schema -/

theorem Image.channel_valid {im : Image} (h : im.valid = true) (k : Fin 4) : (im.channel k).valid = true := by
  simp only [Image.valid, Bool.and_eq_true, List.all_eq_true] at h
  exact h.2 _ ((Four.mem_toList _ _).mpr ⟨k, rfl⟩)

/-- A law of one channel, at the flow that it meets, that work on the channel, an event on it, a change of the idle flag
and the rise of V keep. -/
structure ChannelLaw (P : ChannelConfig → FlowUnit → Channel → Prop) : Prop where
  work {cc : ChannelConfig} {f : FlowUnit} {c d : Channel} : ChannelWork cc f c d → P cc f c → P cc f d
  event {cc : ChannelConfig} {f : FlowUnit} {c after : Channel} : ChannelEvent cc f.v c after → P cc f c →
    P cc f (supervise cc f.v f.idle c after)
  idle {cc : ChannelConfig} {f : FlowUnit} {c : Channel} : P cc f c → P cc f (supervise cc f.v f.idle c c)
  grow {cc : ChannelConfig} {f g : FlowUnit} {c : Channel} : (f.Sound → g.Sound) → (f.Sound → f.v ≤ g.v) →
    P cc f c → P cc g c

/-- Every channel obeys the law. -/
def State.Obeys (P : ChannelConfig → FlowUnit → Channel → Prop) (im : Image) (s : State) : Prop :=
  ∀ k, P (im.channel k) s.flow (s.channel k)

section Schema

variable {P : ChannelConfig → FlowUnit → Channel → Prop} {im : Image} {s t : State}

theorem ChannelLaw.change (L : ChannelLaw P) (h : Change im s t) (hs : s.Obeys P im) : t.Obeys P im := by
  intro j
  cases h with
  | channel hk hwork =>
    rename_i k c
    rw [State.channel_setChannel]
    split
    next hj =>
      subst hj
      exact L.work hwork (hs _)
    next => exact hs j
  | settle cause hk hevent =>
    rename_i k after
    rw [State.settleChannel_flow, State.settleChannel_channel]
    split
    next hj =>
      subst hj
      exact L.event hevent (hs _)
    next => exact hs j
  | rederive f hwater hsound =>
    rw [State.rederiveAll_flow, State.rederiveAll_channel]
    have hgrown := L.grow hsound (fun _ => hwater.2.1.ge) (hs j)
    split
    next => exact L.idle hgrown
    next => exact hgrown
  | flow f hidle hwater hsound => exact L.grow hsound (fun _ => hwater.2.1.ge) (hs j)
  | _ => exact hs j

theorem ChannelLaw.keeps (L : ChannelLaw P) (hserved : s.service = some im) (h : Event im s t)
    (hs : s.Obeys P im) : t.service = some im ∧ t.Obeys P im := by
  obtain ⟨ht, -, -, hobeys⟩ := Event.keeps (fun _ _ _ => L.change) h hserved hs
  exact ⟨ht, hobeys⟩

/-- A law that the load establishes holds in service after every command, if it held there before. -/
theorem ChannelLaw.done (L : ChannelLaw P) (hd : Done s t) (hload : ∀ im, (s.enterService im).Obeys P im)
    (h : ∀ im, s.service = some im → s.Obeys P im) :
    ∀ im, t.service = some im → t.Obeys P im := by
  intro im ht
  cases hd with
  | pinReset => cases ht
  | halts => cases ht
  | restarts => cases ht
  | loads =>
    cases ht
    exact hload im
  | event hs he =>
    obtain ⟨hserved, hobeys⟩ := L.keeps hs he (h _ hs)
    cases hserved.symm.trans ht
    exact hobeys
  | ends hs he =>
    rename_i u
    obtain ⟨hserved, hobeys⟩ := L.keeps hs he (h _ hs)
    rcases u.settleRestart_cases with ⟨-, hsame⟩ | ⟨-, -, hbegins⟩ | ⟨-, -, hmark⟩
    · rw [hsame] at ht ⊢
      cases hserved.symm.trans ht
      exact hobeys
    · rw [hbegins] at ht; cases ht
    · rw [hmark] at ht ⊢
      cases hserved.symm.trans ht
      exact hobeys
  | _ => exact h im ht

/-- A flow sample lets V rise and moves interval figures, so every law of a channel stays. -/
theorem ChannelLaw.sampled (L : ChannelLaw P) (hd : Sampled s t) (h : ∀ im, s.service = some im → s.Obeys P im) :
    ∀ im, t.service = some im → t.Obeys P im := by
  intro im ht k
  cases hd with
  | samples hs litres hfigures =>
    obtain ⟨i, hi⟩ := hfigures k
    have hgrown := L.grow (fun hsound => hsound.sample litres) (fun hsound => le_advanceV hsound.2.2.2 _) (h im ht k)
    exact (congrArg (P (im.channel k) (s.flow.sample litres)) hi).mpr (L.work (.figures i) hgrown)

end Schema

end Sys2Proof.Machine
end

section
/-! The dose law and the feeder law (R22, R29, R52, R92, R95, R99): what each work on a channel does to the figures that they
bound, and the statement that every step keeps them. -/

namespace Sys2Proof.Machine

/-! ### The Dose Engine's figures -/

theorem ChannelConfig.e0_le_nativeCeiling {cc : ChannelConfig} (h : cc.valid = true) (hkind : cc.kind = .chlorine)
    (i : Fin 8) : (cc.profile i).e0 ≤ cc.nativeCeiling := by
  simp only [ChannelConfig.valid, hkind, ChannelConfig.commonValid, Bool.and_eq_true, List.all_eq_true] at h
  have hi := h.1.2 _ (Eight.mem_toList cc.profiles i)
  simp only [Profile.valid, Bool.and_eq_true, decide_eq_true_eq] at hi
  exact hi.2

/-- Forming the active index moves it, the target override and Eest alone (R19, R20). -/
theorem DoseEngine.formIndex_changes (d : DoseEngine) (cc : ChannelConfig) (i : Fin 8) :
    d.formIndex cc i = { d with
      activeIndex := (d.formIndex cc i).activeIndex
      targetOverride := (d.formIndex cc i).targetOverride
      eest := (d.formIndex cc i).eest } := by
  unfold DoseEngine.formIndex
  dsimp only
  split <;> rfl

theorem DoseEngine.formIndex_eest_le {d : DoseEngine} {cc : ChannelConfig} (hv : cc.valid = true)
    (hkind : cc.kind = .chlorine) (h : d.eest ≤ cc.nativeCeiling) (i : Fin 8) :
    (d.formIndex cc i).eest ≤ cc.nativeCeiling := by
  unfold DoseEngine.formIndex DoseEngine.adopt
  dsimp only
  split
  · exact h
  · simpa [hkind] using ChannelConfig.e0_le_nativeCeiling hv hkind _

/-- The dose law reads the state, Deff, Cw, Gch, M′ and Eest. -/
theorem Channel.DoseLaw.of_same {cc : ChannelConfig} {c d : Channel} (h : c.DoseLaw cc) (hstate : d.state = c.state)
    (hdeff : d.dose.deff = c.dose.deff) (hcw : d.dose.cw = c.dose.cw) (hgch : d.dose.gch = c.dose.gch)
    (hmCap : d.dose.mCap = c.dose.mCap) (heest : cc.kind = .chlorine → d.dose.eest ≤ cc.nativeCeiling) :
    d.DoseLaw cc := by
  obtain ⟨h1, h2, h3, h4, h5, -⟩ := h
  exact ⟨by rw [hdeff, hcw]; exact h1, by rw [hcw]; exact h2, by rw [hgch, hmCap]; exact h3,
    by rw [hmCap]; exact h4, by rw [hstate, hmCap]; exact h5, heest⟩

theorem Channel.DoseLaw.eest_le {cc : ChannelConfig} {c : Channel} (h : c.DoseLaw cc) (hkind : cc.kind = .chlorine) :
    c.dose.eest ≤ cc.nativeCeiling := by
  obtain ⟨-, -, -, -, -, heest⟩ := h
  exact heest hkind

theorem Channel.DoseLaw.formIndex {cc : ChannelConfig} {c : Channel} (hv : cc.valid = true) (h : c.DoseLaw cc)
    (o : Option (Fin 8)) (i : Fin 8) :
    ({ c with dose := { c.dose with profileOverride := o }.formIndex cc i } : Channel).DoseLaw cc := by
  rw [DoseEngine.formIndex_changes]
  exact h.of_same rfl rfl rfl rfl rfl fun hk =>
    DoseEngine.formIndex_eest_le (d := { c.dose with profileOverride := o }) hv hk (h.eest_le hk) i

/-! ### The figures of a dose update -/

@[simp] theorem Channel.issueTest_dose (cc : ChannelConfig) (c : Channel) : (c.issueTest cc).dose = c.dose := by
  unfold Channel.issueTest; split <;> rfl

@[simp] theorem Channel.issueTest_state (cc : ChannelConfig) (c : Channel) : (c.issueTest cc).state = c.state := by
  unfold Channel.issueTest; split <;> rfl

@[simp] theorem Channel.issueTest_sup (cc : ChannelConfig) (c : Channel) : (c.issueTest cc).sup = c.sup := by
  unfold Channel.issueTest; split <;> rfl

@[simp] theorem Channel.updateDose_state (cc : ChannelConfig) (q v : Nat) (c : Channel) :
    (c.updateDose cc q v).state = c.state := rfl

@[simp] theorem Channel.updateDose_sup (cc : ChannelConfig) (q v : Nat) (c : Channel) :
    (c.updateDose cc q v).sup = c.sup := rfl

@[simp] theorem Channel.updateDose_feeder (cc : ChannelConfig) (q v : Nat) (c : Channel) :
    (c.updateDose cc q v).feeder = c.feeder := rfl

@[simp] theorem Channel.takeGrant_state (cc : ChannelConfig) (q v gch : Nat) (c : Channel) :
    (c.takeGrant cc q v gch).state = c.state := Channel.issueTest_state cc _

@[simp] theorem Channel.takeGrant_sup (cc : ChannelConfig) (q v gch : Nat) (c : Channel) :
    (c.takeGrant cc q v gch).sup = c.sup := Channel.issueTest_sup cc _

/-- The grant is taken into the dose state, and on a chlorine channel the delivered dose into the history (R48). -/
theorem Channel.takeGrant_dose (cc : ChannelConfig) (q v gch : Nat) (c : Channel) :
    (c.takeGrant cc q v gch).dose = { c.dose with gch := gch }.recordDelivered cc q v := by
  unfold Channel.takeGrant
  dsimp only
  rw [Channel.issueTest_dose]
  rfl

theorem DoseEngine.recordDelivered_changes (d : DoseEngine) (cc : ChannelConfig) (q v : Nat) :
    d.recordDelivered cc q v = { d with history := (d.recordDelivered cc q v).history } := by
  unfold DoseEngine.recordDelivered
  split <;> rfl

/-- Bringing the queue up to V moves the queue and Tdp alone (R44, R50). -/
theorem DoseEngine.bringUp_changes (d : DoseEngine) (cc : ChannelConfig) (v : Nat) :
    d.bringUp cc v = { d with
      pipeline := (d.bringUp cc v).pipeline, tdp := (d.bringUp cc v).tdp, history := (d.bringUp cc v).history } := by
  unfold DoseEngine.bringUp
  split
  · unfold DoseEngine.releaseDue
    dsimp only
    split <;> rfl
  · rfl
  · rfl

theorem DoseEngine.computeDose_le {d : DoseEngine} {cc : ChannelConfig} (h : cc.configured = true) :
    (d.computeDose cc).deff ≤ d.cw ∧ (d.computeDose cc).cw = d.cw ∧
      (d.computeDose cc).eest ≤ d.eest := by
  unfold DoseEngine.computeDose
  dsimp only
  split
  · exact ⟨Nat.min_le_right _ _, rfl, le_rfl⟩
  · exact ⟨Nat.min_le_right _ _, rfl, Nat.min_le_left _ _⟩
  next hkind => simp [ChannelConfig.configured, hkind] at h

/-- M′ lies within Mmax, and is 0 outside DOSING (R29). -/
theorem DoseEngine.computeDemand_mCap (d : DoseEngine) (cc : ChannelConfig) (q : Nat) (st : ChannelState) :
    (d.computeDemand cc q st).mCap = if st = .dosing then min (demandOf q d.deff) cc.feederCapacity else 0 := by
  unfold DoseEngine.computeDemand
  dsimp only
  split <;> rfl

theorem DoseEngine.computeDemand_changes (d : DoseEngine) (cc : ChannelConfig) (q : Nat) (st : ChannelState) :
    d.computeDemand cc q st = { d with
      m := demandOf q d.deff, mCap := (d.computeDemand cc q st).mCap
      feedLimit := (d.computeDemand cc q st).feedLimit } := by
  unfold DoseEngine.computeDemand
  dsimp only
  split <;> rfl

theorem Channel.DoseLaw.doseUpdate {cc : ChannelConfig} {c : Channel} {q v gch : Nat} (hk : cc.configured = true)
    (h : c.DoseLaw cc) (hgch : gch ≤ (c.updateDose cc q v).dose.mCap) :
    ((c.updateDose cc q v).takeGrant cc q v gch).DoseLaw cc := by
  obtain ⟨-, hcw, -, -, -, heest⟩ := h
  have hbrought := c.dose.bringUp_changes cc v
  obtain ⟨hdeff', hcw', heest'⟩ := DoseEngine.computeDose_le (d := c.dose.bringUp cc v) hk
  have hmCap := ((c.dose.bringUp cc v).computeDose cc).computeDemand_mCap cc q c.state
  have hdemand := ((c.dose.bringUp cc v).computeDose cc).computeDemand_changes cc q c.state
  have hcwB : (c.dose.bringUp cc v).cw = c.dose.cw := by rw [hbrought]
  have heestB : (c.dose.bringUp cc v).eest = c.dose.eest := by rw [hbrought]
  unfold Channel.DoseLaw
  rw [Channel.takeGrant_dose, DoseEngine.recordDelivered_changes, Channel.takeGrant_state]
  dsimp only [Channel.updateDose] at hgch ⊢
  generalize ((c.dose.bringUp cc v).computeDose cc).computeDemand cc q c.state = d at hgch hmCap hdemand ⊢
  have hcwD : d.cw = c.dose.cw := by rw [hdemand]; exact hcw'.trans hcwB
  refine ⟨?_, by rw [hcwD]; exact hcw, hgch, ?_, fun hst => ?_, fun hkind => ?_⟩
  · rw [hcwD, hdemand, ← hcwB]; exact hdeff'
  · rw [hmCap]; split
    · exact Nat.min_le_right _ _
    · exact Nat.zero_le _
  · rw [hmCap, if_neg hst]
  · rw [hdemand]; exact (heest'.trans heestB.le).trans (heest hkind)

theorem DoseEngine.ceiling_cases (d : DoseEngine) (native value : Nat) :
    (d.ceiling native value).2 = d ∨ ∃ cw, cw ≤ native ∧ (d.ceiling native value).2 = d.setCeiling cw := by
  unfold DoseEngine.ceiling
  split
  · exact .inl rfl
  · split
    · exact .inl rfl
    · split
      · exact .inr ⟨native, le_rfl, rfl⟩
      · exact .inr ⟨value, by omega, rfl⟩

/-- COMMIT applies the pending profile item, if any, sets the target override and empties the slot (R138). -/
theorem DoseEngine.commit_cases (d : DoseEngine) (cc : ChannelConfig) (selector : Fin 8) :
    ∃ d' target, (d' = d ∨ ∃ item, d' = d.applyProfile cc selector item) ∧
      d.commit cc selector = { d' with targetOverride := target, pendingProfile := none, pendingTarget := none } := by
  unfold DoseEngine.commit
  cases d.pendingProfile with
  | none => cases d.pendingTarget <;> exact ⟨_, _, .inl rfl, rfl⟩
  | some item => cases d.pendingTarget <;> exact ⟨_, _, .inr ⟨item, rfl⟩, rfl⟩

theorem Channel.DoseLaw.commit {cc : ChannelConfig} {c : Channel} (hv : cc.valid = true) (h : c.DoseLaw cc)
    (selector : Fin 8) : ({ c with dose := c.dose.commit cc selector } : Channel).DoseLaw cc := by
  obtain ⟨d, target, hd, hcommit⟩ := c.dose.commit_cases cc selector
  rw [hcommit]
  rcases hd with rfl | ⟨item, rfl⟩
  · exact h
  · exact h.formIndex hv item.override selector

/-! ### The dose law -/

/-- A valid, configured channel obeys the dose law. -/
def doseLaw (cc : ChannelConfig) (_ : FlowUnit) (c : Channel) : Prop :=
  cc.valid = true → cc.configured = true → c.DoseLaw cc

theorem correctEstimate_le (eest cw dose residual : Nat) : correctEstimate eest cw dose residual ≤ cw :=
  Nat.min_le_left _ _

/-- A lookup leaves Eest within Cw where it was within the native ceiling (R52). -/
theorem Channel.lookup_eest_le {cc : ChannelConfig} {v r : Nat} {c : Channel} {bound : Nat}
    (hcw : c.dose.cw ≤ bound) (h : c.dose.eest ≤ bound) : (c.lookup cc v r).dose.eest ≤ bound := by
  unfold Channel.lookup
  dsimp only
  split
  · exact (correctEstimate_le ..).trans hcw
  · exact h

/-- A sample leaves every figure of the dose law but Eest, and Eest within the native ceiling. -/
theorem Channel.DoseLaw.offer {cc : ChannelConfig} {c : Channel} (h : c.DoseLaw cc) (v : Nat) (x : Reading)
    (fresh : Bool) : ((c.hearFresh fresh).offer cc v x).DoseLaw cc := by
  obtain ⟨hstate, -, -, -, hturbidity, hresidual⟩ := c.offer_changes cc v x fresh
  have hfresh : (c.hearFresh fresh).dose = c.dose := by cases fresh <;> rfl
  cases hx : x.measurand with
  | turbidity =>
    obtain ⟨hdose, -⟩ := hturbidity hx
    exact h.of_same hstate (by rw [hdose]) (by rw [hdose]) (by rw [hdose]) (by rw [hdose])
      (by rw [hdose]; exact h.eest_le)
  | residual =>
    have hdose := hresidual hx
    refine h.of_same hstate (by rw [hdose]) (by rw [hdose]) (by rw [hdose]) (by rw [hdose]) fun hkind => ?_
    have hcw : (c.hearFresh fresh).dose.cw ≤ cc.nativeCeiling := by rw [hfresh]; exact h.2.1
    have heest : (c.hearFresh fresh).dose.eest ≤ cc.nativeCeiling := by rw [hfresh]; exact h.eest_le hkind
    unfold Channel.offer
    simp only [hx, Channel.takeResidual]
    split
    · split
      · exact Channel.lookup_eest_le hcw heest
      · exact heest
    · exact heest

theorem Channel.DoseLaw.supervise {cc : ChannelConfig} {before after : Channel} (hafter : after.DoseLaw cc)
    (hstate : after.state = before.state) (v : Nat) (idle : Bool) :
    (supervise cc v idle before after).DoseLaw cc := by
  obtain ⟨h1, h2, h3, h4, h5, h6⟩ := hafter
  unfold Machine.supervise
  dsimp only
  split
  · exact ⟨h1, h2, le_rfl, Nat.zero_le _, fun _ => rfl, h6⟩
  next hstays =>
    refine ⟨h1, h2, h3, h4, fun hst => h5 ?_, h6⟩
    rw [hstate]
    intro hdosing
    exact hstays (by simpa [hdosing] using hst)

theorem doseLaw_law : ChannelLaw doseLaw where
  work := by
    intro cc f c d hwork h hv hk
    have hc := h hv hk
    cases hwork with
    | adoptSelector i => exact hc.formIndex hv c.dose.profileOverride i
    | target deferred item => cases deferred <;> exact hc
    | profile selector deferred item =>
      cases deferred
      · exact hc.formIndex hv item.override selector
      · exact hc
    | ceiling value =>
      rcases c.dose.ceiling_cases cc.nativeCeiling value with hsame | ⟨cw, hcw, hset⟩
      · rw [hsame]; exact hc
      · rw [hset]
        obtain ⟨-, -, h3, h4, h5, h6⟩ := hc
        exact ⟨Nat.min_le_right _ _, hcw, h3, h4, h5, h6⟩
    | commit selector => exact hc.commit hv selector
    | doseUpdate gch hgch => exact hc.doseUpdate hk hgch
    | strokeInterval => exact hc.of_same (by simp) (by simp) (by simp) (by simp) (by simp) (by simpa using hc.eest_le)
    | _ => exact hc
  event := by
    intro cc f c after hevent h hv hk
    have hc := h hv hk
    cases hevent with
    | sample fresh x => exact (hc.offer f.v x fresh).supervise (c.offer_changes cc f.v x fresh).1 _ _
    | release analyzerStale =>
      refine Channel.DoseLaw.supervise ?_ (by rfl) _ _
      refine hc.of_same rfl ?_ ?_ ?_ ?_ fun hkind => ?_
      all_goals simp only [Channel.releaseLock, DoseEngine.resetEstimate]
      iterate 4 split <;> rfl
      rw [if_pos hkind]
      exact ChannelConfig.e0_le_nativeCeiling hv hkind _
    | _ =>
      refine Channel.DoseLaw.supervise ?_ (by rfl) _ _
      exact hc
  idle := fun h hv hk => (h hv hk).supervise rfl _ _
  grow := fun _ _ h => h

/-! ### The feeder law -/

theorem missedThenPending_tail {e : Stroke} {es : List Stroke} (h : missedThenPending (e :: es) = true) :
    missedThenPending es = true := by
  simp only [missedThenPending, Bool.and_eq_true] at h
  exact h.2

/-- A new stroke is PENDING and stands last (R96, R99). -/
theorem missedThenPending_append {es : List Stroke} (h : missedThenPending es = true) {x : Stroke}
    (hx : x.state = .pending) : missedThenPending (es ++ [x]) = true := by
  induction es with
  | nil => simp [missedThenPending]
  | cons e es ih =>
    simp only [missedThenPending, Bool.and_eq_true, Bool.or_eq_true] at h
    simp only [List.cons_append, missedThenPending, Bool.and_eq_true, Bool.or_eq_true]
    refine ⟨h.1.imp_right fun hall => ?_, ih h.2⟩
    simp [hall, hx]

theorem missFirst_length (window : Nat) (es : List Stroke) : (missFirst window es).length = es.length := by
  induction es with
  | nil => rfl
  | cons e es ih =>
    unfold missFirst
    split
    · rfl
    · simp [ih]

/-- The miss of the first PENDING entry keeps the MISSED ones in front (R99, R101). -/
theorem missedThenPending_missFirst {window : Nat} {es : List Stroke} (h : missedThenPending es = true) :
    missedThenPending (missFirst window es) = true := by
  induction es with
  | nil => rfl
  | cons e es ih =>
    have htail := missedThenPending_tail h
    unfold missFirst
    split
    next => simp [missedThenPending, htail]
    next hmissed => simp [missedThenPending, hmissed, ih htail]

theorem missedThenPending_elapse {es : List Stroke} {f : Stroke → Stroke} (hf : ∀ e, (f e).state = e.state)
    (h : missedThenPending es = true) : missedThenPending (es.map f) = true := by
  induction es with
  | nil => rfl
  | cons e es ih =>
    simp only [missedThenPending, Bool.and_eq_true] at h
    simp only [List.map_cons, missedThenPending, Bool.and_eq_true, hf, List.all_map]
    exact ⟨by simpa [Function.comp_def, hf] using h.1, ih h.2⟩

/-- A configured channel obeys the feeder law, and its M′ is 0 outside DOSING, so that no grant enters the credit
there. -/
def feederLaw (cc : ChannelConfig) (_ : FlowUnit) (c : Channel) : Prop :=
  cc.configured = true → c.FeederLaw cc

theorem Channel.FeederLaw.issueTest {cc : ChannelConfig} {c : Channel} (h : c.FeederLaw cc) :
    (c.issueTest cc).FeederLaw cc := by
  unfold Channel.issueTest
  split
  next hmay =>
    simp only [Channel.mayStroke, Bool.and_eq_true, decide_eq_true_eq, strokeListCapacity, beq_iff_eq] at hmay
    obtain ⟨⟨⟨hdosing, -⟩, -⟩, hroom⟩ := hmay
    have hlen : c.feeder.strokes.length < 8 := of_decide_eq_true hroom
    obtain ⟨hcap, -, -, horder, hmisses⟩ := h
    refine ⟨(Nat.sub_le _ _).trans hcap, fun hst => absurd hdosing hst, ?_, missedThenPending_append horder rfl, hmisses⟩
    simp only [Channel.stroke, List.length_append, List.length_singleton]
    omega
  next => exact h

/-- The grant of a second enters the credit; outside DOSING it is 0 (R29, R94, R95). -/
theorem Channel.FeederLaw.doseUpdate {cc : ChannelConfig} {c : Channel} {q v gch : Nat} (h : c.FeederLaw cc)
    (hgch : gch ≤ (c.updateDose cc q v).dose.mCap) :
    ((c.updateDose cc q v).takeGrant cc q v gch).FeederLaw cc := by
  have hmCap := ((c.dose.bringUp cc v).computeDose cc).computeDemand_mCap cc q c.state
  have hcredited : (Channel.credit cc { c.updateDose cc q v with
      dose := { (c.updateDose cc q v).dose with gch := gch } } gch).FeederLaw cc := by
    obtain ⟨-, hidle, hlen, horder, hmisses⟩ := h
    refine ⟨Nat.min_le_left _ _, fun hst => ?_, hlen, horder, hmisses⟩
    change c.state ≠ .dosing at hst
    have hzero : gch = 0 := by
      rw [Channel.updateDose] at hgch
      dsimp only at hgch
      rw [hmCap, if_neg hst] at hgch
      exact Nat.le_zero.mp hgch
    show min cc.creditCap (c.feeder.ac + gch) = 0
    rw [hidle hst, hzero]
    exact Nat.min_zero _
  exact hcredited.issueTest

theorem Channel.FeederLaw.miss {cc : ChannelConfig} {c : Channel} (h : c.FeederLaw cc) : (c.miss cc).FeederLaw cc := by
  obtain ⟨hcap, hidle, hlen, horder, -⟩ := h
  exact ⟨hcap, hidle, (missFirst_length ..).trans_le hlen, missedThenPending_missFirst horder, Nat.min_le_left _ _⟩

/-- The front entry leaves the list. -/
theorem Channel.FeederLaw.front_leaves {cc : ChannelConfig} {c : Channel} (h : c.FeederLaw cc) {x : Stroke}
    {rest : List Stroke} (hlist : c.feeder.strokes = x :: rest) {misses : Nat} (hm : misses ≤ 255) :
    ({ c with feeder := { c.feeder with strokes := rest, misses := misses } } : Channel).FeederLaw cc := by
  obtain ⟨hcap, hidle, hlen, horder, -⟩ := h
  rw [hlist] at hlen horder
  exact ⟨hcap, hidle, (Nat.le_succ _).trans hlen, missedThenPending_tail horder, hm⟩

theorem Channel.FeederLaw.supervise {cc : ChannelConfig} {before after : Channel} (hafter : after.FeederLaw cc)
    (hstate : after.state = before.state) (v : Nat) (idle : Bool) :
    (supervise cc v idle before after).FeederLaw cc := by
  obtain ⟨hcap, hidle, hlen, horder, hmisses⟩ := hafter
  unfold Machine.supervise
  dsimp only
  split
  · exact ⟨Nat.zero_le _, fun _ => rfl, hlen, horder, hmisses⟩
  next hstays =>
    refine ⟨hcap, fun hst => hidle ?_, hlen, horder, hmisses⟩
    rw [hstate]
    intro hdosing
    exact hstays (by simpa [hdosing] using hst)

theorem feederLaw_law : ChannelLaw feederLaw where
  work := by
    intro cc f c d hwork h hk
    have hc := h hk
    obtain ⟨hcap, hidle, hlen, horder, hmisses⟩ := id hc
    cases hwork with
    | doseUpdate gch hgch => exact hc.doseUpdate hgch
    | strokeInterval => exact Channel.FeederLaw.issueTest hc
    | confirmInTime hlist => exact hc.front_leaves hlist (Nat.zero_le _)
    | confirmLate hlist => exact hc.front_leaves hlist hmisses
    | graceOver hlist => exact hc.front_leaves hlist hmisses
    | miss => exact hc.miss
    | _ => exact hc
  event := by
    intro cc f c after hevent h hk
    have hc := h hk
    obtain ⟨hcap, hidle, -⟩ := id hc
    cases hevent with
    | feederFault =>
      refine Channel.FeederLaw.supervise ?_ (by rfl) _ _
      exact hc.miss
    | sample fresh x =>
      obtain ⟨hstate, hfeeder, -⟩ := c.offer_changes cc f.v x fresh
      refine Channel.FeederLaw.supervise ?_ hstate _ _
      unfold Channel.FeederLaw
      rw [hstate, hfeeder]
      exact hc
    | clearFeeder =>
      refine Channel.FeederLaw.supervise ?_ (by rfl) _ _
      exact ⟨hcap, hidle, Nat.zero_le _, rfl, Nat.zero_le _⟩
    | release =>
      refine Channel.FeederLaw.supervise ?_ (by rfl) _ _
      exact ⟨Nat.zero_le _, fun _ => rfl, Nat.zero_le _, rfl, Nat.zero_le _⟩
    | _ =>
      refine Channel.FeederLaw.supervise ?_ (by rfl) _ _
      exact hc
  idle := fun h hk => (h hk).supervise rfl _ _
  grow := fun _ _ h => h

/-! ### The load, a millisecond, and the statement -/

theorem Channel.loaded_doseLaw {cc : ChannelConfig} (hv : cc.valid = true) (hk : cc.configured = true) (c : Channel)
    (sameKind : Bool) (selector : Fin 8) (k : Fin 4) : (c.loaded cc sameKind selector k).DoseLaw cc := by
  unfold Channel.loaded
  rw [if_pos hk]
  refine ⟨Nat.zero_le _, le_rfl, le_rfl, Nat.zero_le _, fun _ => rfl, fun hkind => ?_⟩
  simpa [loadedDose, hkind] using ChannelConfig.e0_le_nativeCeiling hv hkind selector

theorem Channel.loaded_feederLaw {cc : ChannelConfig} (hk : cc.configured = true) (c : Channel) (sameKind : Bool)
    (selector : Fin 8) (k : Fin 4) : (c.loaded cc sameKind selector k).FeederLaw cc := by
  unfold Channel.loaded
  rw [if_pos hk]
  exact ⟨Nat.zero_le _, fun _ => rfl, Nat.zero_le _, rfl, Nat.zero_le _⟩

theorem Channel.FeederLaw.elapse {cc : ChannelConfig} {c : Channel} (h : c.FeederLaw cc) : c.elapse.FeederLaw cc := by
  obtain ⟨hcap, hidle, hlen, horder, hmisses⟩ := h
  exact ⟨hcap, hidle, (List.length_map _).trans_le hlen, missedThenPending_elapse (fun _ => rfl) horder, hmisses⟩

theorem State.PhaseSound.dosesLawful_iff {s : State} (h : s.PhaseSound) :
    s.DosesLawful ↔ ∀ im, s.service = some im → s.Obeys doseLaw im :=
  ⟨fun hd im hs k _ hk => hd im hs k hk,
    fun hd im hs k hk => hd im hs k (Image.channel_valid (h.valid hs) k) hk⟩

/-- Settles O54: each work on a channel and each event on one keeps both laws, the load establishes them, and a
millisecond moves none of their figures. -/
theorem dosesAndFeedersStayLawful : Obligations.DosesAndFeedersStayLawful := by
  intro s t h hstep
  rcases step_cases hstep with rfl | ⟨p, n, hd | hd⟩
  · refine ⟨fun hl im hs k hk => ?_, fun hl im hs k hk => ?_⟩ <;> rw [s.elapse_channel k]
    · exact hl im hs k hk
    · exact (hl im hs k hk).elapse
  · have ht := hd.phaseSound h
    refine ⟨fun hl => ht.dosesLawful_iff.mpr (doseLaw_law.done hd (fun im k hv hk => ?_) (h.dosesLawful_iff.mp hl)),
      fun hl => feederLaw_law.done hd (fun im k hk => ?_) hl⟩ <;> rw [State.enterService_channel]
    · exact Channel.loaded_doseLaw hv hk ..
    · exact Channel.loaded_feederLaw hk ..
  · exact ⟨fun hl => (hd.phaseSound h).dosesLawful_iff.mpr (doseLaw_law.sampled hd (h.dosesLawful_iff.mp hl)),
      fun hl => feederLaw_law.sampled hd hl⟩

end Sys2Proof.Machine
end

section
/-! The water scale (Chapters 1 and 3): the Flow Unit's ranges, the bounds and orders of the volume queues, and the statement
that every step keeps them. -/

namespace Sys2Proof.Machine

/-! ### The queues' operations -/

@[simp] theorem DoseEngine.formIndex_pipeline (d : DoseEngine) (cc : ChannelConfig) (i : Fin 8) :
    (d.formIndex cc i).pipeline = d.pipeline := by rw [DoseEngine.formIndex_changes]

@[simp] theorem DoseEngine.formIndex_history (d : DoseEngine) (cc : ChannelConfig) (i : Fin 8) :
    (d.formIndex cc i).history = d.history := by rw [DoseEngine.formIndex_changes]

theorem pruneHistory_suffix (v lag : Nat) (h : List HistEntry) : pruneHistory v lag h <:+ h := by
  induction h with
  | nil => exact List.suffix_rfl
  | cons a rest ih =>
    cases rest with
    | nil => exact List.suffix_rfl
    | cons b rest =>
      unfold pruneHistory
      split
      · exact ih.trans (List.suffix_cons a _)
      · exact List.suffix_rfl

theorem DoseEngine.bringUp_sublist (d : DoseEngine) (cc : ChannelConfig) (v : Nat) :
    (d.bringUp cc v).pipeline.Sublist d.pipeline ∧ (d.bringUp cc v).history.Sublist d.history := by
  unfold DoseEngine.bringUp
  split
  · unfold DoseEngine.releaseDue
    dsimp only
    split
    · exact ⟨.refl _, .refl _⟩
    · exact ⟨List.drop_sublist _ _, .refl _⟩
  · exact ⟨.refl _, (pruneHistory_suffix ..).sublist⟩
  · exact ⟨.refl _, .refl _⟩

/-- The turbidity pipeline is lawful at V: at most 16 entries, by due volume, none due beyond a sample taken now
(R41, R42). -/
def PipelineLaw (due : Nat) (p : List PipeEntry) : Prop :=
  p.length ≤ 16 ∧ p.Pairwise (fun a b => a.due ≤ b.due) ∧ ∀ e ∈ p, e.due ≤ due

/-- The dose history is lawful at V: at most 8 entries, by strictly rising marks up to V (R47). -/
def HistoryLaw (v : Nat) (h : List HistEntry) : Prop :=
  h.length ≤ 8 ∧ h.Pairwise (fun a b => a.mark < b.mark) ∧ ∀ e ∈ h, e.mark ≤ v

theorem Channel.queueLaw_iff {cc : ChannelConfig} {v : Nat} {c : Channel} : c.QueueLaw cc v ↔
    PipelineLaw (dueVolume v cc.volume) c.dose.pipeline ∧ HistoryLaw v c.dose.history := by
  unfold Channel.QueueLaw PipelineLaw HistoryLaw
  tauto

theorem PipelineLaw.sublist {due : Nat} {p q : List PipeEntry} (h : PipelineLaw due p) (hq : q.Sublist p) :
    PipelineLaw due q := by
  obtain ⟨hlen, hpair, hall⟩ := h
  exact ⟨hq.length_le.trans hlen, hpair.sublist hq, fun e he => hall e (hq.subset he)⟩

theorem HistoryLaw.sublist {v : Nat} {p q : List HistEntry} (h : HistoryLaw v p) (hq : q.Sublist p) :
    HistoryLaw v q := by
  obtain ⟨hlen, hpair, hall⟩ := h
  exact ⟨hq.length_le.trans hlen, hpair.sublist hq, fun e he => hall e (hq.subset he)⟩

theorem PipelineLaw.append {due : Nat} {p : List PipeEntry} (h : PipelineLaw due p) (hroom : p.length < 16)
    (turbidity : Nat) : PipelineLaw due (p ++ [⟨due, turbidity⟩]) := by
  obtain ⟨-, hpair, hall⟩ := h
  refine ⟨by simpa using hroom, List.pairwise_append.mpr ⟨hpair, List.pairwise_singleton _ _, ?_⟩, fun e he => ?_⟩
  · intro a ha b hb
    rw [List.mem_singleton.mp hb]
    exact hall a ha
  · rcases List.mem_append.mp he with he | he
    · exact hall e he
    · rw [List.mem_singleton.mp he]

theorem HistoryLaw.append {v : Nat} {p : List HistEntry} (h : p.Pairwise (fun a b => a.mark < b.mark)) {e : HistEntry}
    (hroom : p.length < 8) (hall : ∀ x ∈ p, x.mark < e.mark) (he : e.mark ≤ v) : HistoryLaw v (p ++ [e]) := by
  refine ⟨by simpa using hroom, List.pairwise_append.mpr ⟨h, List.pairwise_singleton _ _, ?_⟩, fun x hx => ?_⟩
  · intro a ha b hb
    rw [List.mem_singleton.mp hb]
    exact hall a ha
  · rcases List.mem_append.mp hx with hx | hx
    · exact (hall x hx).le.trans he
    · rw [List.mem_singleton.mp hx]; exact he

/-- A full pipeline gives up its front entry, so a sample finds room (R43). -/
theorem DoseEngine.makeRoom_sublist (d : DoseEngine) : d.makeRoom.pipeline.Sublist d.pipeline := by
  unfold DoseEngine.makeRoom
  split
  · exact .refl _
  next e es h =>
    split
    · rw [h]; exact List.sublist_cons_self _ _
    · exact .refl _

theorem DoseEngine.makeRoom_length {d : DoseEngine} (h : d.pipeline.length ≤ 16) : d.makeRoom.pipeline.length < 16 := by
  unfold DoseEngine.makeRoom
  split
  next hnil => rw [hnil]; decide
  next e es hcons =>
    rw [hcons] at h ⊢
    simp only [List.length_cons] at h ⊢
    split
    · dsimp only; omega
    next hroom =>
      rw [hcons]
      simp only [List.length_cons, pipelineCapacity, not_le] at hroom ⊢
      exact hroom

theorem HistoryLaw.enterDose {v : Nat} {h : List HistEntry} (hlaw : HistoryLaw v h) (dd step : Nat) :
    HistoryLaw v (enterDose v dd step h) := by
  unfold Machine.enterDose
  split
  · exact ⟨Nat.succ_le_succ (Nat.zero_le _), List.pairwise_singleton _ _, fun e he => by rw [List.mem_singleton.mp he]⟩
  next newest hnewest =>
    obtain ⟨older, rfl⟩ := List.getLast?_eq_some_iff.mp hnewest
    obtain ⟨hlen, hpair, hall⟩ := id hlaw
    obtain ⟨holder, -, hbefore⟩ := List.pairwise_append.mp hpair
    have hnew : newest.mark ≤ v := hall newest (by simp)
    have hless : ∀ x ∈ older, x.mark < newest.mark := fun x hx => hbefore x hx newest (List.mem_singleton_self _)
    have hroom : older.length < 8 := by simpa using hlen
    rw [List.dropLast_concat]
    split
    · exact hlaw
    · split
      · exact HistoryLaw.append holder hroom hless hnew
      next hne =>
        split
        next hshort =>
          refine HistoryLaw.append hpair hshort (fun x hx => ?_) le_rfl
          have hlt : newest.mark < v := lt_of_le_of_ne hnew (Ne.symm hne)
          rcases List.mem_append.mp hx with hx | hx
          · exact (hless x hx).trans hlt
          · rw [List.mem_singleton.mp hx]; exact hlt
        · exact HistoryLaw.append holder hroom hless hnew

/-! ### The law of the queues -/

/-- The flow is sound, and a configured channel's queues are lawful at its V. -/
def queueLaw (cc : ChannelConfig) (f : FlowUnit) (c : Channel) : Prop :=
  f.Sound ∧ (cc.configured = true → c.QueueLaw cc f.v)

theorem Channel.QueueLaw.of_sublist {cc : ChannelConfig} {v : Nat} {c d : Channel} (h : c.QueueLaw cc v)
    (hp : d.dose.pipeline.Sublist c.dose.pipeline) (hh : d.dose.history.Sublist c.dose.history) : d.QueueLaw cc v := by
  rw [Channel.queueLaw_iff] at h ⊢
  exact ⟨h.1.sublist hp, h.2.sublist hh⟩

theorem Channel.QueueLaw.of_same {cc : ChannelConfig} {v : Nat} {c d : Channel} (h : c.QueueLaw cc v)
    (hp : d.dose.pipeline = c.dose.pipeline) (hh : d.dose.history = c.dose.history) : d.QueueLaw cc v :=
  h.of_sublist (hp ▸ .refl _) (hh ▸ .refl _)

@[simp] theorem supervise_pipeline (cc : ChannelConfig) (v : Nat) (idle : Bool) (b a : Channel) :
    (supervise cc v idle b a).dose.pipeline = a.dose.pipeline := by
  unfold supervise; dsimp only; split <;> rfl

@[simp] theorem supervise_history (cc : ChannelConfig) (v : Nat) (idle : Bool) (b a : Channel) :
    (supervise cc v idle b a).dose.history = a.dose.history := by
  unfold supervise; dsimp only; split <;> rfl

theorem DoseEngine.computeDose_changes (d : DoseEngine) (cc : ChannelConfig) : d.computeDose cc = { d with
    eest := (d.computeDose cc).eest, deff := (d.computeDose cc).deff } := by
  unfold DoseEngine.computeDose
  dsimp only
  split <;> rfl

theorem Channel.updateDose_pipeline (cc : ChannelConfig) (q v : Nat) (c : Channel) :
    (c.updateDose cc q v).dose.pipeline = (c.dose.bringUp cc v).pipeline := by
  rw [Channel.updateDose, DoseEngine.computeDemand_changes, DoseEngine.computeDose_changes]

theorem Channel.updateDose_history (cc : ChannelConfig) (q v : Nat) (c : Channel) :
    (c.updateDose cc q v).dose.history = (c.dose.bringUp cc v).history := by
  rw [Channel.updateDose, DoseEngine.computeDemand_changes, DoseEngine.computeDose_changes]

theorem Channel.QueueLaw.doseUpdate {cc : ChannelConfig} {v : Nat} {c : Channel} (h : c.QueueLaw cc v) (q gch : Nat) :
    ((c.updateDose cc q v).takeGrant cc q v gch).QueueLaw cc v := by
  rw [Channel.queueLaw_iff] at h ⊢
  obtain ⟨hp, hh⟩ := c.dose.bringUp_sublist cc v
  have hpipe := h.1.sublist (Channel.updateDose_pipeline cc q v c ▸ hp)
  have hhist := h.2.sublist (Channel.updateDose_history cc q v c ▸ hh)
  rw [Channel.takeGrant_dose]
  refine ⟨by rw [DoseEngine.recordDelivered_changes]; exact hpipe, ?_⟩
  unfold DoseEngine.recordDelivered
  split
  · exact hhist.enterDose _ _
  · exact hhist

theorem Channel.QueueLaw.offer {cc : ChannelConfig} {v : Nat} {c : Channel} (h : c.QueueLaw cc v) (x : Reading)
    (fresh : Bool) : ((c.hearFresh fresh).offer cc v x).QueueLaw cc v := by
  have hfresh : (c.hearFresh fresh).QueueLaw cc v := by cases fresh <;> exact h
  generalize c.hearFresh fresh = b at hfresh
  unfold Channel.offer
  dsimp only
  split
  · split
    · unfold Channel.takeResidual
      dsimp only
      split
      · unfold Channel.lookup
        dsimp only
        have hpruned := hfresh.of_sublist (d := { b with
            dose := { b.dose with history := pruneHistory v cc.volume b.dose.history } }) (.refl _)
          (pruneHistory_suffix ..).sublist
        split <;> exact hpruned
      · exact hfresh
    · unfold Channel.takeTurbidity
      split
      · rw [Channel.queueLaw_iff] at hfresh ⊢
        obtain ⟨hpipe, hhist⟩ := hfresh
        refine ⟨?_, ?_⟩
        · exact (hpipe.sublist b.dose.makeRoom_sublist).append (DoseEngine.makeRoom_length hpipe.1) _
        · dsimp only
          rw [DoseEngine.appendTurbidity_changes]
          exact hhist
      · exact hfresh
  · exact hfresh

theorem Channel.QueueLaw.grow {cc : ChannelConfig} {v w : Nat} {c : Channel} (h : c.QueueLaw cc v) (hv : v ≤ w) :
    c.QueueLaw cc w := by
  obtain ⟨hlen, hpair, hdue, hhlen, hhpair, hmark⟩ := h
  refine ⟨hlen, hpair, fun e he => (hdue e he).trans ?_, hhlen, hhpair, fun e he => (hmark e he).trans hv⟩
  unfold dueVolume
  omega

theorem queueLaw_law : ChannelLaw queueLaw where
  work := by
    rintro cc f c d hwork ⟨hf, h⟩
    refine ⟨hf, fun hk => ?_⟩
    have hc := h hk
    cases hwork with
    | adoptSelector i =>
      exact hc.of_same (DoseEngine.formIndex_pipeline ..) (DoseEngine.formIndex_history ..)
    | target deferred item => cases deferred <;> exact hc
    | profile selector deferred item =>
      cases deferred
      · exact hc.of_same (DoseEngine.formIndex_pipeline ..) (DoseEngine.formIndex_history ..)
      · exact hc
    | ceiling value =>
      rcases c.dose.ceiling_cases cc.nativeCeiling value with hsame | ⟨cw, -, hset⟩
      · rw [hsame]; exact hc
      · rw [hset]; exact hc
    | commit selector =>
      obtain ⟨d, target, hd, hcommit⟩ := c.dose.commit_cases cc selector
      rw [hcommit]
      rcases hd with rfl | ⟨item, rfl⟩
      · exact hc
      · exact hc.of_same (DoseEngine.formIndex_pipeline ..) (DoseEngine.formIndex_history ..)
    | doseUpdate gch => exact hc.doseUpdate f.q gch
    | strokeInterval => exact hc.of_same (by simp) (by simp)
    | _ => exact hc
  event := by
    rintro cc f c after hevent ⟨hf, h⟩
    refine ⟨hf, fun hk => ?_⟩
    have hc := h hk
    have hafter : after.QueueLaw cc f.v := by
      cases hevent with
      | sample fresh x => exact hc.offer x fresh
      | release stale => refine hc.of_same ?_ ?_ <;> simp only [Channel.releaseLock, DoseEngine.resetEstimate] <;> split <;> rfl
      | _ => exact hc
    exact hafter.of_same (supervise_pipeline ..) (supervise_history ..)
  idle := fun ⟨hf, h⟩ => ⟨hf, fun hk => (h hk).of_same (supervise_pipeline ..) (supervise_history ..)⟩
  grow := fun hsound hv ⟨hf, h⟩ => ⟨hsound hf, fun hk => (h hk).grow (hv hf)⟩

theorem Channel.loaded_queueLaw {cc : ChannelConfig} (c : Channel) (sameKind : Bool) (selector : Fin 8) (k : Fin 4)
    (v : Nat) : (c.loaded cc sameKind selector k).QueueLaw cc v := by
  unfold Channel.loaded
  split <;> exact ⟨Nat.zero_le _, .nil, nofun, Nat.zero_le _, .nil, nofun⟩

/-! ### The Flow Unit -/

theorem FlowUnit.held_sound : FlowUnit.held.Sound :=
  ⟨Nat.zero_le _, fun i => by rw [FlowUnit.held, Four.get_all]; exact Nat.zero_le _, rfl, Nat.zero_le _⟩

theorem Change.flow_sound {im : Image} {s t : State} (h : Change im s t) (hs : s.flow.Sound) : t.flow.Sound := by
  cases h with
  | settle => rw [State.settleChannel_flow]; exact hs
  | rederive f hv hsound => rw [State.rederiveAll_flow]; exact hsound hs
  | flow f hidle hv hsound => exact hsound hs
  | _ => exact hs

theorem Event.flow_sound {im : Image} {s t : State} (h : Event im s t) (hserved : s.service = some im)
    (hs : s.flow.Sound) : t.flow.Sound :=
  (h.keeps (fun _ _ _ hc => hc.flow_sound) hserved hs).2.2.2

theorem State.settleRestart_flow_sound {s : State} (h : s.flow.Sound) : s.settleRestart.flow.Sound := by
  rcases s.settleRestart_cases with ⟨-, hsame⟩ | ⟨-, -, hbegins⟩ | ⟨-, -, hmark⟩
  · rwa [hsame]
  · rw [hbegins]; exact FlowUnit.held_sound
  · rw [hmark]; exact h

theorem Done.flow_sound {s t : State} (hd : Done s t) (h : s.flow.Sound) : t.flow.Sound := by
  cases hd with
  | pinReset => exact FlowUnit.held_sound
  | restarts => exact FlowUnit.held_sound
  | event hs he => exact he.flow_sound hs h
  | ends hs he => exact State.settleRestart_flow_sound (he.flow_sound hs h)
  | _ => exact h

theorem Sampled.flow_sound {s t : State} (hd : Sampled s t) (h : s.flow.Sound) : t.flow.Sound := by
  cases hd with
  | samples hs litres => exact h.sample litres

/-! ### The statement -/

/-- Settles O55: the Flow Unit moves by pulses, samples and the idle flag alone, and a queue by its own operations, each of
which keeps the bounds and the order; V only rises. -/
theorem theWaterScaleStaysLawful : Obligations.TheWaterScaleStaysLawful := by
  intro s t h hstep
  rcases step_cases hstep with rfl | ⟨p, n, hd | hd⟩
  · refine ⟨h, fun hl im hs k hk => ?_⟩
    rw [s.elapse_channel k]
    exact hl im hs k hk
  · refine ⟨hd.flow_sound h, fun hl im hs k hk => ?_⟩
    exact (queueLaw_law.done hd (fun im k => ⟨h, fun _ => by
      rw [State.enterService_channel]; exact Channel.loaded_queueLaw ..⟩) (fun im hs k => ⟨h, hl im hs k⟩) im hs k).2 hk
  · refine ⟨hd.flow_sound h, fun hl im hs k hk => ?_⟩
    exact (queueLaw_law.sampled hd (fun im hs k => ⟨h, hl im hs k⟩) im hs k).2 hk

end Sys2Proof.Machine
end

section
/-! Protection (Chapter 7): what an event does to the condition table, the timers and the lockout record of its channel, and the
statement that every step keeps the states derived, the timers matched and the lockouts recorded. -/

namespace Sys2Proof.Machine

/-! ### The derived state -/

theorem Supervisor.derive_eq_locked_iff {p : Supervisor} {idle : Bool} :
    p.derive idle = .locked ↔ p.highHigh = .active ∨ p.runOn = .active := by
  unfold Supervisor.derive
  split_ifs <;> simp_all

/-- Work on a channel that is no event of protection leaves its state and its conditions. -/
theorem ChannelWork.protection {cc : ChannelConfig} {f : FlowUnit} {c d : Channel} (h : ChannelWork cc f c d) :
    d.state = c.state ∧ d.sup = { c.sup with quietTimer := d.sup.quietTimer } := by
  cases h with
  | doseUpdate gch => exact ⟨by simp, by simp⟩
  | strokeInterval => exact ⟨by simp, by simp⟩
  | _ => exact ⟨rfl, rfl⟩

theorem ChannelWork.derive {cc : ChannelConfig} {f : FlowUnit} {c d : Channel} (h : ChannelWork cc f c d)
    (idle : Bool) : d.sup.derive idle = c.sup.derive idle := by
  rw [h.protection.2]; rfl

/-- Each channel's state is the one that its conditions and the idle flag give, with the image said (R111). -/
def State.DerivedBy (s : State) (im : Image) : Prop :=
  ∀ k, (s.channel k).state = if (im.channel k).configured then (s.channel k).sup.derive s.flow.idle else .off

theorem Change.derived {im : Image} {s t : State} (h : Change im s t) (hs : s.DerivedBy im) : t.DerivedBy im := by
  intro j
  cases h with
  | channel hk hwork =>
    rename_i k c
    rw [State.channel_setChannel]
    split
    next hj =>
      subst hj
      rw [State.setChannel_flow, hwork.protection.1, hs, hwork.derive]
    next => exact hs j
  | settle cause hk hevent =>
    rename_i k after
    rw [State.settleChannel_flow, State.settleChannel_channel]
    split
    next hj =>
      subst hj
      rw [if_pos hk]; rfl
    next => exact hs j
  | rederive f hv =>
    rw [State.rederiveAll_flow, State.rederiveAll_channel]
    split
    next hk => rfl
    next hk => exact (hs j).trans (if_neg hk)
  | flow f hidle => exact hidle ▸ hs j
  | _ => exact hs j

theorem Event.derived {im : Image} {s t : State} (h : Event im s t) (hserved : s.service = some im)
    (hs : s.DerivedBy im) : t.DerivedBy im :=
  (h.keeps (fun _ _ _ hc => hc.derived) hserved hs).2.2.2

theorem Channel.loaded_state (c : Channel) (cc : ChannelConfig) (sameKind : Bool) (selector : Fin 8) (k : Fin 4) :
    (c.loaded cc sameKind selector k).state =
      if cc.configured then (c.loaded cc sameKind selector k).sup.derive false else .off := by
  unfold Channel.loaded
  split <;> rfl

/-- Every command keeps the states derived; the load derives them with the idle flag clear (R168). -/
theorem Done.statesDerived {s t : State} (hd : Done s t) (hphase : s.PhaseSound) (h : s.StatesDerived) :
    t.StatesDerived := by
  intro im ht
  cases hd with
  | pinReset => cases ht
  | halts => cases ht
  | restarts => cases ht
  | loads hread hv =>
    cases ht
    intro k
    have hflow := (hphase.blocksHeld_of_reading hread).1
    have hidle : (s.enterService im).flow.idle = false := congrArg FlowUnit.idle hflow
    rw [hidle, State.enterService_channel]
    exact Channel.loaded_state ..
  | event hs he =>
    obtain ⟨hserved, -⟩ := he.keeps (P := fun _ => True) (fun _ _ _ _ _ => trivial) hs trivial
    cases hserved.symm.trans ht
    exact he.derived hs (h _ hs)
  | ends hs he =>
    rename_i im' u
    obtain ⟨hserved, -⟩ := he.keeps (P := fun _ => True) (fun _ _ _ _ _ => trivial) hs trivial
    have hu := he.derived hs (h _ hs)
    rcases u.settleRestart_cases with ⟨-, hsame⟩ | ⟨-, -, hbegins⟩ | ⟨-, -, hmark⟩
    · rw [hsame] at ht ⊢
      cases hserved.symm.trans ht
      exact hu
    · rw [hbegins] at ht; cases ht
    · rw [hmark] at ht ⊢
      cases hserved.symm.trans ht
      exact hu
  | _ => exact h im ht

/-! ### What a sample does to the conditions -/

/-- A residual of a chlorine channel is judged against its conditions; any other sample leaves them (R38, R114). -/
theorem Channel.offer_sup (cc : ChannelConfig) (v : Nat) (x : Reading) (c : Channel) :
    (c.offer cc v x).sup =
      if cc.kind.measures x.measurand = true ∧ x.measurand = .residual then c.sup.judgeResidual cc x.value
      else c.sup := by
  have hlookup : ∀ b : Channel, (b.lookup cc v x.value).sup = b.sup := fun b => by
    rw [Channel.lookup_changes]
  unfold Channel.offer
  dsimp only
  cases cc.kind.measures x.measurand with
  | false => simp
  | true =>
    cases x.measurand with
    | residual =>
      simp only [if_true, and_self]
      unfold Channel.takeResidual
      dsimp only
      split
      · rw [hlookup]
      · rfl
    | turbidity =>
      simp only [if_true, Channel.takeTurbidity]
      split <;> simp

/-! ### Timers match ALERT -/

/-- A judged condition and its timer match where they did before (R114). -/
theorem judgeCondition_matches {time : Nat} {beyond back : Bool} {c : Cond} {t : Timer}
    (h : c = .alert ↔ t.isSome = true) : (judgeCondition time beyond back c t).1 = .alert ↔
      (judgeCondition time beyond back c t).2.isSome = true := by
  unfold judgeCondition
  split
  · exact h
  · cases c <;> cases beyond <;> cases back <;> simp_all [startS]

theorem Supervisor.TimersMatch.judgeResidual {p : Supervisor} (h : p.TimersMatch) (cc : ChannelConfig) (r : Nat) :
    (p.judgeResidual cc r).TimersMatch := by
  obtain ⟨hL, hH, hHH, hrest⟩ := h
  exact ⟨judgeCondition_matches hL, judgeCondition_matches hH, judgeCondition_matches hHH, hrest⟩

theorem Supervisor.TimersMatch.hearFresh {c : Channel} (h : c.sup.TimersMatch) (fresh : Bool) :
    (c.hearFresh fresh).sup.TimersMatch := by
  obtain ⟨hL, hH, hHH, hR, hF, hS⟩ := h
  cases fresh
  · exact ⟨hL, hH, hHH, hR, hF, hS⟩
  · exact ⟨hL, hH, hHH, hR, hF, by simp [Channel.hearFresh]⟩

theorem Supervisor.TimersMatch.runOnEvent {p : Supervisor} (h : p.TimersMatch) (cc : ChannelConfig) :
    (p.runOnEvent cc).TimersMatch := by
  obtain ⟨hL, hH, hHH, hR, hF, hS⟩ := h
  unfold Supervisor.runOnEvent Supervisor.judgeRunOn
  dsimp only
  split
  next hclear =>
    split
    · exact ⟨hL, hH, hHH, by simpa [hclear] using hR, hF, hS⟩
    · exact ⟨hL, hH, hHH, by simp [startS], hF, hS⟩
  next => exact ⟨hL, hH, hHH, by simp, hF, hS⟩
  next => exact ⟨hL, hH, hHH, hR, hF, hS⟩

theorem Supervisor.TimersMatch.raise {p : Supervisor} (h : p.TimersMatch) (w : ResidualCondition) :
    (p.raise w).TimersMatch := by
  obtain ⟨hL, hH, hHH, hR, hF, hS⟩ := h
  cases w
  · exact ⟨by simp [Supervisor.raise], hH, hHH, hR, hF, hS⟩
  · exact ⟨hL, by simp [Supervisor.raise], hHH, hR, hF, hS⟩
  · exact ⟨hL, hH, by simp [Supervisor.raise], hR, hF, hS⟩

/-- The alert and run-on timers of a channel match its conditions. -/
def timersLaw (_ : ChannelConfig) (_ : FlowUnit) (c : Channel) : Prop := c.sup.TimersMatch

theorem timersLaw_law : ChannelLaw timersLaw where
  work := by
    intro cc f c d hwork h
    unfold timersLaw
    rw [hwork.protection.2]
    exact h
  event := by
    intro cc f c after hevent h
    obtain ⟨hL, hH, hHH, hR, hF, hS⟩ := id h
    have hafter : after.sup.TimersMatch := by
      cases hevent with
      | unexpected => exact h.runOnEvent cc
      | feederFault => exact ⟨hL, hH, hHH, hR, Cond.noConfusion, hS⟩
      | raise w => exact h.raise w
      | runOnOver => exact ⟨hL, hH, hHH, by simp, hF, hS⟩
      | stale => exact ⟨hL, hH, hHH, hR, hF, Cond.noConfusion⟩
      | sample fresh x =>
        rw [Channel.offer_sup]
        split
        · exact Supervisor.TimersMatch.judgeResidual (Supervisor.TimersMatch.hearFresh h fresh) cc _
        · exact Supervisor.TimersMatch.hearFresh h fresh
      | clearFeeder => exact ⟨hL, hH, hHH, hR, by simp [Channel.clearFeeder], hS⟩
      | release stale =>
        refine ⟨?_, ?_, ?_, ?_, ?_, ?_⟩ <;> simp [Channel.releaseLock, Supervisor.released]
        split <;> decide
    exact hafter
  idle := fun h => h
  grow := fun _ _ h => h

theorem Supervisor.heldForRestart_timersMatch (p : Supervisor) (locked : Bool) :
    (p.heldForRestart locked).TimersMatch := by
  have hkept : ∀ c, keptCondition locked c ≠ .alert := by
    intro c; unfold keptCondition; split <;> decide
  refine ⟨?_, ?_, ?_, ?_, ?_, ?_⟩ <;> simp [Supervisor.heldForRestart, Supervisor.held, hkept]

/-- The load keeps a lock that is in force and no ALERT, whose timer the restart has stopped (R130). -/
theorem Channel.loaded_timersMatch {c : Channel} (h : c.sup.TimersMatch) (hrest : c.sup.Resting) (cc : ChannelConfig)
    (sameKind : Bool) (selector : Fin 8) (k : Fin 4) : (c.loaded cc sameKind selector k).sup.TimersMatch := by
  obtain ⟨-, -, hHH, hR, -⟩ := h
  obtain ⟨-, -, htHH, htR, -⟩ := hrest
  have hhh : c.sup.highHigh ≠ .alert := by simp [hHH, htHH]
  have hro : c.sup.runOn ≠ .alert := by simp [hR, htR]
  unfold Channel.loaded
  split
  · refine ⟨?_, ?_, ?_, ?_, ?_, ?_⟩ <;> simp [Supervisor.loaded, Supervisor.held]
    · split
      · exact hhh
      · decide
    · split
      · exact hro
      · decide
  · refine ⟨?_, ?_, ?_, ?_, ?_, ?_⟩ <;> simp [Supervisor.held]

/-! ### Lockouts are recorded -/

/-- The channel shows LOCKED exactly while a lockout condition is ACTIVE (R111). -/
def Channel.LockShown (c : Channel) : Prop :=
  c.state = .locked ↔ c.sup.highHigh = .active ∨ c.sup.runOn = .active

theorem becameActive_iff {b a : Cond} : becameActive b a = true ↔ b ≠ .active ∧ a = .active := by
  simp [becameActive]

/-- An event that makes at most one lockout condition ACTIVE leaves each lock recorded: captured at entry into LOCKED
(R122), named as an additional cause on a LOCKED channel (R123). -/
theorem supervise_lockRecorded {cc : ChannelConfig} {v : Nat} {idle : Bool} {b a : Channel} (hshown : b.LockShown)
    (h : b.sup.LockRecorded) (hlockout : a.sup.lockout = b.sup.lockout)
    (hone : ¬ (becameActive b.sup.highHigh a.sup.highHigh = true ∧ becameActive b.sup.runOn a.sup.runOn = true)) :
    (supervise cc v idle b a).sup.LockRecorded := by
  rw [supervise_conditions]
  intro hlocked
  change a.sup.highHigh = .active ∨ a.sup.runOn = .active at hlocked
  have hst : a.sup.derive idle = .locked := Supervisor.derive_eq_locked_iff.mpr hlocked
  simp only [lockoutAfter, hst, beq_self_eq_true, if_true]
  by_cases hb : b.state = .locked
  · obtain ⟨r, hr, hopen, hhh, hro⟩ := h (hshown.mp hb)
    simp only [hb, beq_self_eq_true, if_true, hlockout, hr, Option.map_some]
    refine ⟨_, rfl, hopen, fun ha => ?_, fun ha => ?_⟩
    · by_cases hwas : b.sup.highHigh = .active
      · exact (hhh hwas).imp_right fun e => by simp [e]
      · exact .inr (by simp [becameActive_iff.mpr ⟨hwas, ha⟩])
    · by_cases hwas : b.sup.runOn = .active
      · exact (hro hwas).imp_right fun e => by simp [e]
      · exact .inr (by simp [becameActive_iff.mpr ⟨hwas, ha⟩])
  · have hnone : ¬ (b.sup.highHigh = .active ∨ b.sup.runOn = .active) := fun e => hb (hshown.mpr e)
    rw [not_or] at hnone
    simp only [beq_eq_false_iff_ne.mpr hb, Bool.false_eq_true, if_false]
    refine ⟨_, rfl, rfl, fun ha => .inl ?_, fun ha => .inl ?_⟩
    · simp [captureLockout, becameActive_iff.mpr ⟨hnone.1, ha⟩]
    · have hro := becameActive_iff.mpr ⟨hnone.2, ha⟩
      have hhh : becameActive b.sup.highHigh a.sup.highHigh = false := by
        rw [Bool.eq_false_iff]; exact fun e => hone ⟨e, hro⟩
      simp [captureLockout, hhh]

theorem supervise_lockShown (cc : ChannelConfig) (v : Nat) (idle : Bool) (b a : Channel) :
    (supervise cc v idle b a).LockShown :=
  Supervisor.derive_eq_locked_iff

theorem becameActive_self (c : Cond) : becameActive c c = false := by cases c <;> rfl

/-- An event makes at most one of the two lockout conditions ACTIVE, and releases the record only with both CLEAR. -/
theorem ChannelEvent.lockout {cc : ChannelConfig} {v : Nat} {c after : Channel} (h : ChannelEvent cc v c after) :
    (after.sup.lockout = c.sup.lockout ∧ ¬ (becameActive c.sup.highHigh after.sup.highHigh = true ∧
      becameActive c.sup.runOn after.sup.runOn = true)) ∨
    (after.sup.highHigh = .clear ∧ after.sup.runOn = .clear) := by
  cases h with
  | unexpected =>
    have hsup : (c.sup.runOnEvent cc).lockout = c.sup.lockout ∧ (c.sup.runOnEvent cc).highHigh = c.sup.highHigh := by
      unfold Supervisor.runOnEvent Supervisor.judgeRunOn
      dsimp only
      split <;> (try split) <;> exact ⟨rfl, rfl⟩
    refine .inl ⟨hsup.1, fun hboth => ?_⟩
    simp [Channel.confirmUnexpected, hsup.2, becameActive_self] at hboth
  | raise w => cases w <;> exact .inl ⟨rfl, by simp [Supervisor.raise, becameActive_self]⟩
  | sample fresh x =>
    have hraised := (c.offer_changes cc v x fresh).2.2.1
    refine .inl ⟨?_, fun hboth => ?_⟩
    · rw [Channel.offer_sup]
      cases fresh <;> split <;> rfl
    · rw [Bool.eq_false_iff, ne_eq, anyBecameActive_iff] at hraised
      exact hraised (.inr (.inr (.inl (becameActive_iff.mp hboth.1))))
  | release stale => exact .inr ⟨rfl, rfl⟩
  | runOnOver => exact .inl ⟨rfl, by simp [becameActive_self]⟩
  | _ => exact .inl ⟨rfl, fun hboth => by simp [becameActive_self, Channel.miss, Channel.clearFeeder] at hboth⟩

/-- A configured channel shows its lock, and each lock is recorded. -/
def lockLaw (cc : ChannelConfig) (_ : FlowUnit) (c : Channel) : Prop :=
  cc.configured = true → c.LockShown ∧ c.sup.LockRecorded

theorem lockLaw_law : ChannelLaw lockLaw where
  work := by
    intro cc f c d hwork h hk
    obtain ⟨hstate, hsup⟩ := hwork.protection
    unfold Channel.LockShown
    rw [hstate, hsup]
    exact h hk
  event := by
    intro cc f c after hevent h hk
    obtain ⟨hshown, hrecorded⟩ := h hk
    refine ⟨supervise_lockShown .., ?_⟩
    rcases hevent.lockout with ⟨hlockout, hone⟩ | ⟨hhh, hro⟩
    · exact supervise_lockRecorded hshown hrecorded hlockout hone
    · rw [supervise_conditions]
      rintro (h | h)
      · cases hhh.symm.trans h
      · cases hro.symm.trans h
  idle := fun h hk => ⟨supervise_lockShown .., supervise_lockRecorded (h hk).1 (h hk).2 rfl
    (by simp [becameActive_self])⟩
  grow := fun _ _ h => h

/-! ### The statement -/

/-- A change leaves each channel of kind NONE as it was. -/
theorem Change.channel_of_unconfigured {im : Image} {s t : State} (h : Change im s t) {j : Fin 4}
    (hj : (im.channel j).configured = false) : t.channel j = s.channel j := by
  have hne : ∀ {k : Fin 4}, (im.channel k).configured = true → j ≠ k := by
    rintro k hk rfl
    exact Bool.false_ne_true (hj.symm.trans hk)
  cases h with
  | channel hk => rw [State.channel_setChannel, if_neg (hne hk)]
  | settle cause hk => rw [State.settleChannel_channel, if_neg (hne hk)]
  | rederive f => rw [State.rederiveAll_channel, if_neg (by simp [hj])]; rfl
  | _ => rfl

theorem Event.timersMatch {im : Image} {s t : State} (he : Event im s t) (hs : s.service = some im)
    (h : ∀ k, (s.channel k).sup.TimersMatch) (k : Fin 4) : (t.channel k).sup.TimersMatch :=
  (timersLaw_law.keeps hs he h).2 k

theorem Event.lockRecorded {im : Image} {s t : State} (he : Event im s t) (hs : s.service = some im)
    (hderived : s.StatesDerived) (h : ∀ k, (s.channel k).sup.LockRecorded) (k : Fin 4) :
    (t.channel k).sup.LockRecorded := by
  cases hk : (im.channel k).configured with
  | true =>
    have hlaw : s.Obeys lockLaw im := fun j hj => by
      refine ⟨?_, h j⟩
      rw [Channel.LockShown, hderived im hs j, if_pos hj]
      exact Supervisor.derive_eq_locked_iff
    exact ((lockLaw_law.keeps hs he hlaw).2 k hk).2
  | false =>
    have hsame := (he.keeps (P := fun u => u.channel k = s.channel k)
      (fun _ _ _ hc hu => (hc.channel_of_unconfigured hk).trans hu) hs rfl).2.2.2
    rw [hsame]
    exact h k

/-- Conditions that were ACTIVE before, with the record that was held then, keep a lock recorded. -/
theorem Supervisor.LockRecorded.of_fewer {p q : Supervisor} (h : p.LockRecorded) (hlockout : q.lockout = p.lockout)
    (hhh : q.highHigh = .active → p.highHigh = .active) (hro : q.runOn = .active → p.runOn = .active) :
    q.LockRecorded := by
  intro hlocked
  obtain ⟨r, hr, hopen, hcauseHH, hcauseRO⟩ := h (hlocked.imp hhh hro)
  exact ⟨r, hlockout.trans hr, hopen, fun e => hcauseHH (hhh e), fun e => hcauseRO (hro e)⟩

theorem keptCondition_active {locked : Bool} {c : Cond} (h : keptCondition locked c = .active) : c = .active := by
  unfold keptCondition at h
  split at h <;> simp_all

theorem Supervisor.LockRecorded.heldForRestart {p : Supervisor} (h : p.LockRecorded) (locked : Bool) :
    (p.heldForRestart locked).LockRecorded :=
  h.of_fewer rfl keptCondition_active keptCondition_active

theorem Supervisor.LockRecorded.loaded {c : Channel} (h : c.sup.LockRecorded) (cc : ChannelConfig) (sameKind : Bool)
    (selector : Fin 8) (k : Fin 4) : (c.loaded cc sameKind selector k).sup.LockRecorded := by
  unfold Channel.loaded
  split
  · refine h.of_fewer rfl (fun ha => ?_) fun ha => ?_
    · simp only [Supervisor.loaded] at ha
      split at ha
      · exact ha
      · cases ha
    · simp only [Supervisor.loaded] at ha
      split at ha
      · exact ha
      · cases ha
  · exact h.of_fewer rfl nofun nofun

theorem State.elapse_statesDerived {s : State} (h : s.StatesDerived) : s.elapse.StatesDerived := by
  intro im him k
  rw [s.elapse_channel k]
  exact h im him k

theorem Timer.elapse_isSome (t : Timer) : t.elapse.isSome = t.isSome := by cases t <;> rfl

theorem Supervisor.TimersMatch.elapse {c : Channel} (h : c.sup.TimersMatch) : c.elapse.sup.TimersMatch := by
  simpa only [Supervisor.TimersMatch, Channel.elapse, Timer.elapse_isSome] using h

/-- Every command keeps the timers matched. -/
theorem Done.timersMatch {s t : State} (hd : Done s t) (hphase : s.PhaseSound)
    (h : ∀ k, (s.channel k).sup.TimersMatch) : ∀ k, (t.channel k).sup.TimersMatch := by
  have hbegins : ∀ u : State, ∀ k, (u.beginRestart.channel k).sup.TimersMatch := fun u k => by
    rw [u.beginRestart_channel k]
    exact Supervisor.heldForRestart_timersMatch _ _
  intro k
  cases hd with
  | pinReset => rw [s.pinReset_channel k]; simp [Supervisor.TimersMatch, Channel.held, Supervisor.held]
  | halts => rw [s.halt_channel k]; exact h k
  | loads hread =>
    obtain ⟨-, -, -, -, -, -, -, -, -, -, hchannels⟩ := hphase.blocksHeld_of_reading hread
    obtain ⟨-, -, -, hrest⟩ := hchannels k
    rw [State.enterService_channel]
    exact Channel.loaded_timersMatch (h k) hrest _ _ _ _
  | restarts => exact hbegins s k
  | event hs he => exact he.timersMatch hs h k
  | ends hs he =>
    rename_i im u
    have hu := he.timersMatch hs h
    rcases u.settleRestart_cases with ⟨-, hsame⟩ | ⟨-, -, hbegin⟩ | ⟨-, -, hmark⟩
    · rw [hsame]; exact hu k
    · rw [hbegin]; exact hbegins u k
    · rw [hmark]; exact hu k
  | _ => exact h k

/-- Every command keeps each lock recorded. -/
theorem Done.lockRecorded {s t : State} (hd : Done s t) (hderived : s.StatesDerived)
    (h : ∀ k, (s.channel k).sup.LockRecorded) : ∀ k, (t.channel k).sup.LockRecorded := by
  have hbegins : ∀ u : State, (∀ k, (u.channel k).sup.LockRecorded) →
      ∀ k, (u.beginRestart.channel k).sup.LockRecorded := fun u hu k => by
    rw [u.beginRestart_channel k]
    exact (hu k).heldForRestart _
  intro k
  cases hd with
  | pinReset => rw [s.pinReset_channel k]; rintro (e | e) <;> cases e
  | halts => rw [s.halt_channel k]; exact h k
  | loads => rw [State.enterService_channel]; exact (h k).loaded _ _ _ _
  | restarts => exact hbegins s h k
  | event hs he => exact he.lockRecorded hs hderived h k
  | ends hs he =>
    rename_i im u
    have hu := he.lockRecorded hs hderived h
    rcases u.settleRestart_cases with ⟨-, hsame⟩ | ⟨-, -, hbegin⟩ | ⟨-, -, hmark⟩
    · rw [hsame]; exact hu k
    · rw [hbegin]; exact hbegins u hu k
    · rw [hmark]; exact hu k
  | _ => exact h k

/-- A flow sample moves nothing of protection. -/
theorem Sampled.protection {s t : State} (hd : Sampled s t) : (s.StatesDerived → t.StatesDerived) ∧
    ((∀ k, (s.channel k).sup.TimersMatch) → ∀ k, (t.channel k).sup.TimersMatch) ∧
    (s.StatesDerived → (∀ k, (s.channel k).sup.LockRecorded) → ∀ k, (t.channel k).sup.LockRecorded) := by
  cases hd with
  | samples hs litres hfigures =>
    have hstate := fun k => (congrArg Channel.state (hfigures k).choose_spec :)
    have hsup := fun k => (congrArg Channel.sup (hfigures k).choose_spec :)
    refine ⟨fun h im him k => ?_, fun h k => ?_, fun _ h k => ?_⟩
    · refine (hstate k).trans ((h im him k).trans ?_)
      exact congrArg (fun p : Supervisor => if (im.channel k).configured then p.derive s.flow.idle else .off)
        (hsup k).symm
    · exact (congrArg Supervisor.TimersMatch (hsup k)).mpr (h k)
    · exact (congrArg Supervisor.LockRecorded (hsup k)).mpr (h k)

/-- Settles O56: each change of an event derives the state of its channel anew, and moves a timer with its condition; the
resets and the load keep a lock only with its record. -/
theorem protectionStaysDerived : Obligations.ProtectionStaysDerived := by
  intro s t hphase hstep
  rcases step_cases hstep with rfl | ⟨_, _, hd | hd⟩
  · refine ⟨State.elapse_statesDerived, fun h k => ?_, fun _ h k => ?_⟩
    · rw [s.elapse_channel k]; exact (h k).elapse
    · rw [s.elapse_channel k]; exact h k
  · exact ⟨hd.statesDerived hphase, hd.timersMatch hphase, hd.lockRecorded⟩
  · exact hd.protection

end Sys2Proof.Machine
end

section
/-! The tables of the Peer View (Chapter 4) and the numbers of the records (Chapter 9): the statements that every step keeps
the tables lawful and the report queue numbered without a gap. -/

namespace Sys2Proof.Machine

/-! ### The tables -/

/-- The law of the two tables, with the image said. -/
def PeerView.Lawful (p : PeerView) (im : Image) : Prop :=
  p.TableLaw im.station.number ∧ ∀ g, (p.capacity.get g).Law (im.groups.get g).maxCapacity

/-- The law speaks of the tables alone, not of the counts and timers beside them. -/
theorem PeerView.Lawful.of_same_tables {p q : PeerView} {im : Image} (h : p.Lawful im) (htable : q.table = p.table)
    (hcapacity : q.capacity = p.capacity) : q.Lawful im := by
  unfold PeerView.Lawful PeerView.TableLaw
  rw [htable, hcapacity]
  exact h

theorem GroupSlots.law_of_empty (maximum : Nat) : (GroupSlots.mk none none).Law maximum :=
  ⟨fun _ h => h.elim nofun nofun, nofun⟩

theorem PeerView.held_lawful (im : Image) : PeerView.held.Lawful im := by
  refine ⟨⟨.nil, by rintro e he; cases he⟩, fun g => ?_⟩
  rw [show PeerView.held.capacity.get g = ⟨none, none⟩ from Four.get_all _ g]
  exact GroupSlots.law_of_empty _

theorem Change.tables {im : Image} {s t : State} (h : Change im s t) (hs : s.peer.Lawful im) : t.peer.Lawful im := by
  cases h with
  | settle =>
    rw [State.settleChannel_same State.peer (fun _ _ _ => rfl) (fun _ _ => rfl)]
    exact hs
  | rederive =>
    rw [State.rederiveAll_same State.peer fun _ _ _ => rfl]
    exact hs
  | peer p htable hslots => exact ⟨htable hs.1, fun g => hslots g (hs.2 g)⟩
  | rejoin => exact hs.of_same_tables rfl rfl
  | _ => exact hs

theorem Event.tables {im : Image} {s t : State} (h : Event im s t) (hserved : s.service = some im)
    (hs : s.peer.Lawful im) : t.service = some im ∧ t.peer.Lawful im := by
  obtain ⟨ht, -, -, hlawful⟩ := h.keeps (P := fun u => u.peer.Lawful im) (fun _ _ _ hc => hc.tables) hserved hs
  exact ⟨ht, hlawful⟩

/-- Every command keeps the tables lawful; the load finds them held, so empty (R75). -/
theorem Done.tablesLawful {s t : State} (hd : Done s t) (hphase : s.PhaseSound) (h : s.TablesLawful) :
    t.TablesLawful := by
  intro im ht
  cases hd with
  | pinReset => cases ht
  | halts => cases ht
  | restarts => cases ht
  | loads hread =>
    obtain ⟨-, -, -, hpeer, -⟩ := hphase.blocksHeld_of_reading hread
    have hempty : s.peer.Lawful im := hpeer ▸ PeerView.held_lawful im
    cases ht
    exact hempty.of_same_tables rfl rfl
  | event hs he =>
    obtain ⟨hserved, hlawful⟩ := he.tables hs (h _ hs)
    cases hserved.symm.trans ht
    exact hlawful
  | ends hs he =>
    rename_i im' u
    obtain ⟨hserved, hlawful⟩ := he.tables hs (h _ hs)
    rcases u.settleRestart_cases with ⟨-, hsame⟩ | ⟨-, -, hbegins⟩ | ⟨-, -, hmark⟩
    · rw [hsame] at ht ⊢
      cases hserved.symm.trans ht
      exact hlawful
    · rw [hbegins] at ht; cases ht
    · rw [hmark] at ht ⊢
      cases hserved.symm.trans ht
      exact hlawful
  | _ => exact h im ht

/-- Settles O57: an announcement enters in order, an expiry ages, and no other command touches the tables of a station
in service. -/
theorem theTablesStayLawful : Obligations.TheTablesStayLawful := by
  intro s t hphase h hstep
  rcases step_cases hstep with rfl | ⟨_, _, hd | ⟨hs, litres, -⟩⟩
  · intro im him
    exact PeerView.Lawful.of_same_tables (h im him) rfl rfl
  · exact hd.tablesLawful hphase h
  · exact h

/-! ### The record numbers -/

theorem nextSeq_le (n : Nat) : nextSeq n ≤ top16 := by
  unfold nextSeq
  split <;> omega

theorem numberedUpTo_tail {next : Nat} {r : DoseRecord} {q : List DoseRecord} (h : numberedUpTo next (r :: q) = true) :
    numberedUpTo next q = true := by
  cases q with
  | nil => rfl
  | cons a rest =>
    rw [numberedUpTo, Bool.and_eq_true] at h
    exact h.2

theorem numberedUpTo_drop {next : Nat} {q : List DoseRecord} (n : Nat) (h : numberedUpTo next q = true) :
    numberedUpTo next (q.drop n) = true := by
  induction n generalizing q with
  | zero => exact h
  | succ n ih =>
    cases q with
    | nil => rfl
    | cons r rest => exact ih (numberedUpTo_tail h)

/-- A record that bears the number to come carries the run of numbers on. -/
theorem numberedUpTo_append {next : Nat} {q : List DoseRecord} {r : DoseRecord} (h : numberedUpTo next q = true)
    (hr : r.seq = next) : numberedUpTo (nextSeq next) (q ++ [r]) = true := by
  induction q with
  | nil => simp [numberedUpTo, hr]
  | cons a rest ih =>
    have htail := ih (numberedUpTo_tail h)
    cases rest with
    | nil =>
      simp only [numberedUpTo, beq_iff_eq] at h
      simp [numberedUpTo, h, hr]
    | cons b rest =>
      rw [numberedUpTo, Bool.and_eq_true] at h
      simpa [numberedUpTo, h.1] using htail

theorem RecordBuilder.Sound.of_fewer {r r' : RecordBuilder} (h : r.Sound) (hseq : r'.seq = r.seq) {n : Nat}
    (hqueue : r'.queue = r.queue.drop n) : r'.Sound := by
  obtain ⟨hlen, hbound, hrun, hall⟩ := h
  unfold RecordBuilder.Sound
  rw [hseq, hqueue]
  exact ⟨by rw [List.length_drop]; omega, hbound, numberedUpTo_drop n hrun, fun x hx => hall x (List.mem_of_mem_drop hx)⟩

theorem RecordBuilder.Sound.of_same {r r' : RecordBuilder} (h : r.Sound) (hseq : r'.seq = r.seq)
    (hqueue : r'.queue = r.queue) : r'.Sound :=
  h.of_fewer hseq (n := 0) hqueue

theorem RecordBuilder.Sound.record {r : RecordBuilder} (h : r.Sound) {x : DoseRecord} (hx : x.seq = r.seq) :
    ({ r with queue := appendRecord r.queue x, seq := nextSeq r.seq } : RecordBuilder).Sound := by
  obtain ⟨hlen, hbound, hrun, hall⟩ := h
  have hdrop : ∃ n, appendRecord r.queue x = r.queue.drop n ++ [x] ∧ (r.queue.drop n).length ≤ 15 := by
    unfold appendRecord reportCapacity
    split
    · exact ⟨1, rfl, by rw [List.length_drop]; omega⟩
    · exact ⟨0, rfl, by rw [List.length_drop]; omega⟩
  obtain ⟨n, happend, hfew⟩ := hdrop
  rw [happend]
  refine ⟨by rw [List.length_append]; exact Nat.succ_le_succ hfew, nextSeq_le _, numberedUpTo_append (numberedUpTo_drop n hrun) hx, fun y hy => ?_⟩
  rcases List.mem_append.mp hy with hy | hy
  · exact hall y (List.mem_of_mem_drop hy)
  · rw [List.mem_singleton.mp hy, hx]
    exact hbound

theorem Change.recs_sound {im : Image} {s t : State} (h : Change im s t) (hs : s.recs.Sound) : t.recs.Sound := by
  cases h with
  | settle =>
    rw [State.settleChannel_same State.recs (fun _ _ _ => rfl) (fun _ _ => rfl)]
    exact hs
  | rederive =>
    rw [State.rederiveAll_same State.recs fun _ _ _ => rfl]
    exact hs
  | counts r hqueue hseq => exact hs.of_same hseq hqueue
  | announce => exact hs.of_same rfl rfl
  | record r hr => exact hs.record hr
  | pack n => exact hs.of_fewer rfl rfl
  | _ => exact hs

theorem Event.recs_sound {im : Image} {s t : State} (h : Event im s t) (hserved : s.service = some im)
    (hs : s.recs.Sound) : t.recs.Sound :=
  (h.keeps (P := fun u => u.recs.Sound) (fun _ _ _ hc => hc.recs_sound) hserved hs).2.2.2

theorem RecordBuilder.Sound.emptied {r : RecordBuilder} (hseq : r.seq ≤ top16) (hqueue : r.queue = []) : r.Sound := by
  unfold RecordBuilder.Sound
  rw [hqueue]
  exact ⟨Nat.zero_le _, hseq, rfl, by rintro x hx; cases hx⟩

theorem State.beginRestart_recs_sound {s : State} (h : s.recs.Sound) : s.beginRestart.recs.Sound :=
  .emptied h.2.1 rfl

theorem Done.recs_sound {s t : State} (hd : Done s t) (h : s.recs.Sound) : t.recs.Sound := by
  cases hd with
  | pinReset => exact .emptied (Nat.zero_le _) rfl
  | loads => exact h.of_same rfl rfl
  | halts => exact h.of_same rfl rfl
  | restarts => exact State.beginRestart_recs_sound h
  | demandEnds _ _ _ _ hqueue hseq => exact h.of_same hseq hqueue
  | leavesUnserved _ _ _ hqueue hseq => exact h.of_same hseq hqueue
  | event hs he => exact he.recs_sound hs h
  | ends hs he =>
    rename_i im u
    have hu := he.recs_sound hs h
    rcases u.settleRestart_cases with ⟨-, hsame⟩ | ⟨-, -, hbegins⟩ | ⟨-, -, hmark⟩
    · rwa [hsame]
    · rw [hbegins]; exact State.beginRestart_recs_sound hu
    · rw [hmark]; exact hu
  | _ => exact h

/-- Settles O59: a record takes the number to come, packing takes the oldest records, and the resets empty the queue. -/
theorem recordNumbersRunOn : Obligations.RecordNumbersRunOn := by
  intro s t h hstep
  rcases step_cases hstep with rfl | ⟨_, _, hd | ⟨hs, litres, -⟩⟩
  · exact h.of_same rfl rfl
  · exact hd.recs_sound h
  · exact h

end Sys2Proof.Machine
end

section
/-! The link (Chapter 10): what queueing and the choice of a frame do to the entries IN ATTEMPT, to an awaited ANSWER and to the
line, and the statement that every step keeps the link sound. -/

namespace Sys2Proof.Machine

/-! ### Entries taken away and marked -/

theorem eraseP_eq_append_cons {p : Entry → Bool} {q : List Entry} {v : Entry} (h : q.find? p = some v) :
    ∃ a b, q = a ++ v :: b ∧ q.eraseP p = a ++ b := by
  obtain ⟨hv, a, b, rfl, ha⟩ := List.find?_eq_some_iff_append.mp h
  refine ⟨a, b, rfl, ?_⟩
  rw [List.eraseP_append_right _ fun x hx => by simpa using ha x hx, List.eraseP_cons_of_pos hv]

/-- The entries that pass one test stay where an entry that fails it is taken away. -/
theorem filter_eraseP_of_disjoint {p r : Entry → Bool} (h : ∀ e, p e = true → r e = false) (q : List Entry) :
    (q.eraseP p).filter r = q.filter r := by
  cases hfind : q.find? p with
  | none => rw [List.eraseP_of_forall_not fun e he => by simpa using List.find?_eq_none.mp hfind e he]
  | some v =>
    obtain ⟨a, b, hq, herase⟩ := eraseP_eq_append_cons hfind
    have hv := h v (List.find?_some hfind)
    rw [herase, hq]
    simp [hv]

theorem filter_dropLastThat_of_disjoint {p r : Entry → Bool} (h : ∀ e, p e = true → r e = false) (q : List Entry) :
    (dropLastThat p q).filter r = q.filter r := by
  rw [dropLastThat, List.filter_reverse, filter_eraseP_of_disjoint h, List.filter_reverse, List.reverse_reverse]

theorem mem_of_mem_dropLastThat {p : Entry → Bool} {q : List Entry} {e : Entry} (h : e ∈ dropLastThat p q) : e ∈ q :=
  List.mem_reverse.mp (List.eraseP_subset (List.mem_reverse.mp h))

/-- Marking the first entry that passes a test changes that entry alone. -/
theorem markFirst_append {p : Entry → Bool} {a b : List Entry} {e : Entry} (ha : ∀ x ∈ a, p x = false)
    (he : p e = true) : markFirst p (a ++ e :: b) = a ++ { e with inAttempt := true } :: b := by
  induction a with
  | nil => simp [markFirst, he]
  | cons x a ih => simp [markFirst, ha x List.mem_cons_self, ih fun y hy => ha y (List.mem_cons_of_mem _ hy)]

/-! ### The choice of a frame -/

theorem bestWaiting_eq_none {q : List Entry} : bestWaiting q = none ↔ ∀ e ∈ q, e.inAttempt = true := by
  simp [bestWaiting, List.min?_eq_none_iff]

/-- The lowest priority number among the waiting frames is that of one of them, and no other's is lower. -/
theorem bestWaiting_eq_some {q : List Entry} {p : Nat} (h : bestWaiting q = some p) :
    (∃ e ∈ q, e.waitingAt p = true) ∧ ∀ e ∈ q, e.inAttempt = false → p ≤ e.body.priority := by
  obtain ⟨hmem, hleast⟩ := List.min?_eq_some_iff.mp h
  simp only [List.mem_map, List.mem_filter, Bool.not_eq_true'] at hmem hleast
  obtain ⟨e, ⟨he, hwaits⟩, hp⟩ := hmem
  exact ⟨⟨e, he, by simp [Entry.waitingAt, hwaits, hp]⟩, fun x hx hw => hleast _ ⟨x, ⟨hx, hw⟩, rfl⟩⟩

theorem Link.anyWaiting_eq_false {l : Link} :
    l.anyWaiting = false ↔ l.slot = none ∧ ∀ e ∈ l.queue, e.inAttempt = true := by
  simp [Link.anyWaiting]

/-- The attempt of an entry: the oldest one that waits at its priority goes on the line (R157). -/
theorem Link.attemptEntry_eq {l : Link} {p : Nat} (own : Nat) (h : ∃ e ∈ l.queue, e.waitingAt p = true) :
    ∃ a e b, l.queue = a ++ e :: b ∧ (∀ x ∈ a, x.waitingAt p = false) ∧ e.waitingAt p = true ∧
      l.attemptEntry own p = { l with
        queue := a ++ { e with inAttempt := true } :: b
        tx := .entry (l.overflowFor e.body) (e.body.wire own (l.overflowFor e.body)), line := .own } := by
  obtain ⟨e, hfind⟩ := Option.isSome_iff_exists.mp (List.find?_isSome.mpr h)
  obtain ⟨he, a, b, hq, ha⟩ := List.find?_eq_some_iff_append.mp hfind
  have ha' : ∀ x ∈ a, x.waitingAt p = false := fun x hx => by simpa using ha x hx
  refine ⟨a, e, b, hq, ha', he, ?_⟩
  unfold Link.attemptEntry
  rw [hfind]
  dsimp only
  rw [hq, markFirst_append ha' he]

/-- What the choice of a frame does: nothing where none waits; otherwise the DEMAND of the slot, or the oldest entry of the
lowest priority number, goes on the line (R157). -/
theorem Link.beginAttempt_begins (l : Link) (own : Nat) :
    (l.anyWaiting = false ∧ l.beginAttempt own = l) ∨
    (∃ a, l.slot = some a ∧ l.beginAttempt own = l.attemptDemand own a) ∨
    ∃ p a e b, l.queue = a ++ e :: b ∧ e.waitingAt p = true ∧ l.beginAttempt own = { l with
      queue := a ++ { e with inAttempt := true } :: b
      tx := .entry (l.overflowFor e.body) (e.body.wire own (l.overflowFor e.body)), line := .own } := by
  rcases l.beginAttempt_cases own with ⟨hslot, hbest, h⟩ | ⟨a, hslot, -, h⟩ | ⟨p, hbest, -, h⟩
  · exact .inl ⟨Link.anyWaiting_eq_false.mpr ⟨hslot, bestWaiting_eq_none.mp hbest⟩, h⟩
  · exact .inr (.inl ⟨a, hslot, h⟩)
  · obtain ⟨a, e, b, hq, -, he, hattempt⟩ := Link.attemptEntry_eq own (bestWaiting_eq_some hbest).1
    exact .inr (.inr ⟨p, a, e, b, hq, he, h.trans hattempt⟩)

/-! ### The law of R156 -/

section Sound

variable {l : Link}

theorem Entry.waitingRecords_waits {e : Entry} (h : e.waitingRecords = true) : e.inAttempt = false := by
  simp only [Entry.waitingRecords, Bool.and_eq_true, Bool.not_eq_true'] at h
  exact h.1

theorem Entry.waitingAnswer_waits {e : Entry} (h : e.waitingAnswer = true) : e.inAttempt = false := by
  simp only [Entry.waitingAnswer, Bool.and_eq_true, Bool.not_eq_true'] at h
  exact h.1

theorem Entry.waitingAt_waits {e : Entry} {p : Nat} (h : e.waitingAt p = true) : e.inAttempt = false := by
  simp only [Entry.waitingAt, Bool.and_eq_true, Bool.not_eq_true'] at h
  exact h.1

/-- A frame queued goes to a place that it or another frame has left free, and no frame IN ATTEMPT is moved (R160). -/
theorem Link.Sound.enqueue (h : l.Sound) (b : Body) (awaited : Bool) :
    (l.enqueue (Entry.fresh b awaited)).Sound := by
  obtain ⟨hlen, hcounts, hannounced, hone⟩ := h
  refine ⟨?_, fun e he => ?_, by simpa using hannounced, ?_⟩
  · rcases l.enqueue_cases (Entry.fresh b awaited) with ⟨hroom, hq⟩ | ⟨-, hany, hq⟩ | ⟨-, -, -, v, hv, hq⟩ |
      ⟨-, -, -, -, hq⟩ | ⟨-, -, -, hq⟩ <;> rw [hq]
    · simpa [queueCapacity] using hroom
    · have : 0 < l.queue.length := List.length_pos_of_mem (List.any_eq_true.mp hany).choose_spec.1
      simp only [List.length_append, dropLastThat_length hany, List.length_singleton]
      omega
    · obtain ⟨x, y, hxy, herase⟩ := eraseP_eq_append_cons hv
      rw [hxy] at hlen
      simp only [herase, List.length_append, List.length_cons, List.length_nil] at hlen ⊢
      omega
    · exact hlen
    · exact hlen
  · rcases Link.mem_enqueue he with he | rfl
    · exact hcounts e he
    · exact Nat.zero_le _
  · have hfresh : (Entry.fresh b awaited).inAttempt = false := rfl
    have hsame : (l.enqueue (Entry.fresh b awaited)).queue.filter Entry.inAttempt = l.queue.filter Entry.inAttempt := by
      rcases l.enqueue_cases (Entry.fresh b awaited) with ⟨-, hq⟩ | ⟨-, -, hq⟩ | ⟨-, -, -, v, -, hq⟩ |
        ⟨-, -, -, -, hq⟩ | ⟨-, -, -, hq⟩ <;> rw [hq]
      · simp [hfresh]
      · simp [hfresh, filter_dropLastThat_of_disjoint fun e => Entry.waitingRecords_waits]
      · simp [hfresh, filter_eraseP_of_disjoint fun e => Entry.waitingAnswer_waits]
    rw [hsame, Link.enqueue_tx, hone]

theorem Link.Sound.of_line (h : l.Sound) {m : Link} (hqueue : m.queue = l.queue) (hslot : m.slot = l.slot)
    (htx : m.tx = l.tx) : m.Sound := by
  unfold Link.Sound
  rw [hqueue, hslot, htx]
  exact h

/-- The choice of a frame brings one frame IN ATTEMPT (R157). -/
theorem Link.Sound.beginAttempt (h : l.Sound) (htx : l.tx = .idle) (own : Nat) : (l.beginAttempt own).Sound := by
  obtain ⟨hlen, hcounts, hannounced, hone⟩ := id h
  rw [htx] at hone
  rcases l.beginAttempt_begins own with ⟨-, e⟩ | ⟨a, hslot, e⟩ | ⟨p, x, en, y, hq, hwaits, e⟩
  · rwa [e]
  · rw [e]
    refine ⟨hlen, hcounts, fun b hb => ?_, hone⟩
    rcases hb with hb | hb
    · cases hb
    · cases hb; exact hannounced _ (.inl hslot)
  · rw [e]
    rw [hq] at hlen hone hcounts
    refine ⟨by simpa using hlen, fun z hz => ?_, fun b hb => hannounced b ?_, ?_⟩
    · rcases List.mem_append.mp hz with hz | hz
      · exact hcounts z (List.mem_append_left _ hz)
      · rcases List.mem_cons.mp hz with rfl | hz
        · exact hcounts en (List.mem_append_right _ List.mem_cons_self)
        · exact hcounts z (List.mem_append_right _ (List.mem_cons_of_mem _ hz))
    · exact hb.imp_right nofun
    · simp only [List.filter_append, List.length_append, List.filter_cons, Entry.waitingAt_waits hwaits] at hone
      simp only [Bool.false_eq_true, if_false, Transmitter.drivesEntry] at hone
      simp only [List.filter_append, List.length_append, List.filter_cons, if_true, List.length_cons,
        Transmitter.drivesEntry]
      omega

theorem State.testedLink_sound {s : State} (h : s.link.Sound) : s.testedLink.Sound := by
  unfold State.testedLink
  split
  next hm =>
    obtain ⟨-, -, htx, -⟩ := State.mayAttempt_iff.mp hm
    split
    · exact h.beginAttempt htx _
    · exact h.of_line rfl rfl rfl
  next => exact h

theorem State.enqueue_sound {s : State} (h : s.link.Sound) (b : Body) (awaited : Bool := false) :
    (s.enqueue b awaited).link.Sound :=
  State.testedLink_sound (s := { s with link := s.link.enqueue (Entry.fresh b awaited) }) (h.enqueue b awaited)

theorem Link.Sound.leave (h : l.Sound) {sent : Bool} {wire : List Byte} (htx : l.tx = .entry sent wire) :
    l.leave.Sound := by
  obtain ⟨hlen, hcounts, hannounced, hone⟩ := h
  rw [htx] at hone
  refine ⟨le_trans (List.length_eraseP_le) hlen, fun e he => hcounts e (List.eraseP_subset he), fun a ha => ?_, ?_⟩
  · exact hannounced a (ha.imp_right nofun)
  · have hsome : 0 < (l.queue.filter Entry.inAttempt).length := by rw [hone]; exact Nat.one_pos
    obtain ⟨e, he⟩ := List.exists_mem_of_length_pos hsome
    obtain ⟨v, hv⟩ := Option.isSome_iff_exists.mp (List.find?_isSome.mpr ⟨e, List.mem_filter.mp he⟩)
    obtain ⟨x, y, hq, herase⟩ := eraseP_eq_append_cons hv
    have hin : v.inAttempt = true := List.find?_some hv
    rw [hq] at hone
    simp only [List.filter_append, List.filter_cons, hin, if_true, List.length_append, List.length_cons,
      Transmitter.drivesEntry] at hone
    simp only [Link.leave, herase, List.filter_append, List.length_append, Link.stopDriving_tx,
      Transmitter.drivesEntry, Bool.false_eq_true, if_false]
    omega

theorem Link.Sound.stopDriving_demand (h : l.Sound) {a : Announcement} {sent : Bool} {wire : List Byte}
    (htx : l.tx = .demand a sent wire) (line : Line) : (l.stopDriving line).Sound ∧ a.collisions ≤ 2 := by
  obtain ⟨hlen, hcounts, hannounced, hone⟩ := h
  rw [htx] at hone
  exact ⟨⟨hlen, hcounts, fun b hb => hannounced b (hb.imp_right nofun), hone⟩,
    hannounced a (.inr (by rw [htx]; rfl))⟩

theorem Link.Sound.withSlot (h : l.Sound) {a : Announcement} (ha : a.collisions ≤ 2) :
    ({ l with slot := some a } : Link).Sound := by
  obtain ⟨hlen, hcounts, hannounced, hone⟩ := h
  refine ⟨hlen, hcounts, fun b hb => ?_, hone⟩
  rcases hb with hb | hb
  · cases hb; exact ha
  · exact hannounced b (.inr hb)

/-- Frames that wait again leave none IN ATTEMPT (R158). -/
theorem Link.Sound.waitAgain (h : l.Sound) {f : Nat → Nat} (line : Line)
    (hf : ∀ e ∈ l.queue, e.inAttempt = true → e.collisions ≤ 2 → f e.collisions ≤ 2) :
    ({ l.stopDriving line with queue := waitAgain f l.queue } : Link).Sound := by
  obtain ⟨hlen, hcounts, hannounced, -⟩ := h
  refine ⟨by simpa [Machine.waitAgain] using hlen, fun e he => ?_, fun a ha => ?_, ?_⟩
  · obtain ⟨x, hx, rfl⟩ := List.mem_map.mp he
    split
    next hin => exact hf x hx hin (hcounts x hx)
    next => exact hcounts x hx
  · exact hannounced a (ha.imp_right nofun)
  · have hnone : (Machine.waitAgain f l.queue).filter Entry.inAttempt = [] := by
      rw [List.filter_eq_nil_iff]
      intro e he
      obtain ⟨x, hx, rfl⟩ := List.mem_map.mp he
      split <;> simp_all
    simp [hnone, Transmitter.drivesEntry]

theorem Link.emptied_sound {m : Link} (hqueue : m.queue = []) (hslot : m.slot = none) (htx : m.tx = .idle) :
    m.Sound := by
  unfold Link.Sound
  rw [hqueue, hslot, htx]
  exact ⟨Nat.zero_le _, fun _ he => absurd he List.not_mem_nil, fun _ h => h.elim nofun nofun, rfl⟩

end Sound

theorem State.settleChannel_link {P : Link → Prop} (hqueue : ∀ (s : State) b, P s.link → P (s.enqueue b).link)
    {s : State} (h : P s.link) (im : Image) (k : Fin 4) (after : Channel) (cause : Option AlarmCause) :
    P (s.settleChannel im k after cause).link := by
  rcases s.settleChannel_eq im k after cause with e | ⟨b, e⟩ <;> rw [e]
  · exact h
  · exact hqueue _ b h

theorem Change.link_sound {im : Image} {s t : State} (h : Change im s t) (hs : s.link.Sound) : t.link.Sound := by
  cases h with
  | settle => exact State.settleChannel_link (fun _ b hu => State.enqueue_sound hu b) hs im _ _ _
  | rederive => rw [State.rederiveAll_link]; exact hs
  | rejoin => exact State.testedLink_sound (s := s.enterJoin) hs
  | silence htx => exact Link.emptied_sound rfl rfl htx
  | enqueue b => exact State.enqueue_sound hs b
  | awaitRestart => exact State.enqueue_sound (s := { s with restartPending := true }) hs _ true
  | announce => exact State.testedLink_sound (hs.withSlot (Nat.zero_le _))
  | driven => exact hs.of_line rfl rfl rfl
  | pack n => exact State.enqueue_sound hs _
  | leave htx => exact (hs.leave htx).of_line rfl rfl rfl
  | _ => exact hs

theorem Done.link_sound {s t : State} (hd : Done s t) (h : s.link.Sound) : t.link.Sound := by
  cases hd with
  | pinReset => exact Link.emptied_sound rfl rfl rfl
  | lineIdle htx =>
    have hidle : ({ s.link with line := .idle } : Link).Sound := h.of_line rfl rfl rfl
    dsimp only
    split
    · exact hidle.beginAttempt htx _
    · exact hidle
  | waitsAgain htx hline hf => exact h.waitAgain _ hf
  | demandEnds htx hline hslot overflow =>
    obtain ⟨hstopped, hfew⟩ := h.stopDriving_demand htx _
    rcases hslot with rfl | ⟨b, rfl, hb⟩
    · exact hstopped.of_line rfl rfl rfl
    · exact (hstopped.withSlot (hb hfew)).of_line rfl rfl rfl
  | leavesUnserved htx => exact (h.leave htx).of_line rfl rfl rfl
  | restarts => exact Link.emptied_sound rfl rfl rfl
  | event hs he => exact (he.keeps (P := fun u => u.link.Sound) (fun _ _ _ hc => hc.link_sound) hs h).2.2.2
  | ends hs he =>
    rename_i im u
    have hu := (he.keeps (P := fun u => u.link.Sound) (fun _ _ _ hc => hc.link_sound) hs h).2.2.2
    rcases u.settleRestart_cases with ⟨-, hsame⟩ | ⟨-, -, hbegins⟩ | ⟨-, -, hmark⟩
    · rwa [hsame]
    · rw [hbegins]; exact Link.emptied_sound rfl rfl rfl
    · rw [hmark]; exact hu.of_line rfl rfl rfl
  | _ => exact h

/-! ### The awaited ANSWER -/

/-- Within an event the restart-pending flag is set exactly while an awaited ANSWER is in the queue or has left it in that
event, and only an ANSWER is awaited (R143). -/
def Link.Awaits (l : Link) (pending : Bool) : Prop :=
  pending = (l.awaitedLeft || l.queue.any Entry.awaited) ∧ ∀ e ∈ l.queue, e.awaited = true → e.body.priority = 4

section Awaits

variable {l : Link} {pending : Bool}

theorem Link.Awaits.of_same (h : l.Awaits pending) {m : Link} (hqueue : m.queue = l.queue)
    (hleft : m.awaitedLeft = l.awaitedLeft) : m.Awaits pending := by
  unfold Link.Awaits
  rw [hqueue, hleft]
  exact h

/-- A RECORDS that gives way is not awaited; an ANSWER that gives way while awaited has left (R143, R160). -/
theorem Link.Awaits.enqueue (h : l.Awaits pending) {e : Entry} (he : e.awaited = true → e.body.priority = 4) :
    (l.enqueue e).Awaits (pending || e.awaited) := by
  obtain ⟨hpending, hanswers⟩ := h
  refine ⟨?_, fun x hx hawaited => ?_⟩
  · have hno : e.body.isAlarm = true → e.awaited = false := by
      intro halarm
      by_contra hyes
      have := he (by simpa using hyes)
      revert halarm this
      cases e.body <;> simp [Body.isAlarm, Body.priority]
    rcases l.enqueue_cases e with ⟨-, hq⟩ | ⟨-, -, hq⟩ | ⟨-, -, halarm, v, hv, hq⟩ | ⟨-, -, halarm, -, hq⟩ |
      ⟨-, -, -, hq⟩ <;> rw [hq, hpending]
    · simp [Bool.or_assoc]
    · have hsame : (dropLastThat Entry.waitingRecords l.queue).any Entry.awaited = l.queue.any Entry.awaited := by
        rw [Bool.eq_iff_iff, List.any_eq_true, List.any_eq_true]
        constructor
        · rintro ⟨x, hx, ha⟩
          exact ⟨x, mem_of_mem_dropLastThat hx, ha⟩
        · rintro ⟨x, hx, ha⟩
          have hkept : x ∈ (dropLastThat Entry.waitingRecords l.queue).filter fun y => y.body.priority == 4 := by
            rw [filter_dropLastThat_of_disjoint fun y hy => ?_]
            · simp [hx, hanswers x hx ha]
            · simp only [Entry.waitingRecords, Bool.and_eq_true, beq_iff_eq] at hy
              simp [hy.2]
          exact ⟨x, (List.mem_filter.mp hkept).1, ha⟩
      simp [hsame, Bool.or_assoc]
    · obtain ⟨x, y, hxy, herase⟩ := eraseP_eq_append_cons hv
      rw [herase, hxy, hno halarm]
      cases hawaited : v.awaited <;> simp [hno halarm, hawaited]
    · simp [hno halarm]
    · cases e.awaited <;> simp
  · rcases Link.mem_enqueue hx with hx | rfl
    · exact hanswers x hx hawaited
    · exact he hawaited

theorem Link.Awaits.beginAttempt (h : l.Awaits pending) (own : Nat) : (l.beginAttempt own).Awaits pending := by
  rcases l.beginAttempt_begins own with ⟨-, e⟩ | ⟨a, -, e⟩ | ⟨p, x, en, y, hq, -, e⟩
  · rwa [e]
  · rw [e]; exact h.of_same rfl rfl
  · obtain ⟨hpending, hanswers⟩ := h
    rw [e]
    rw [hq] at hpending hanswers
    refine ⟨by simpa using hpending, fun z hz hawaited => ?_⟩
    rcases List.mem_append.mp hz with hz | hz
    · exact hanswers z (List.mem_append_left _ hz) hawaited
    · rcases List.mem_cons.mp hz with rfl | hz
      · exact hanswers en (List.mem_append_right _ List.mem_cons_self) hawaited
      · exact hanswers z (List.mem_append_right _ (List.mem_cons_of_mem _ hz)) hawaited

theorem State.testedLink_awaits {s : State} (h : s.link.Awaits pending) : s.testedLink.Awaits pending := by
  unfold State.testedLink
  split
  · split
    · exact h.beginAttempt _
    · exact h.of_same rfl rfl
  · exact h

theorem State.enqueue_awaits {s : State} (h : s.link.Awaits pending) (b : Body) : (s.enqueue b).link.Awaits pending := by
  have hqueued : (s.link.enqueue (Entry.fresh b false)).Awaits pending := by
    simpa [Entry.fresh] using h.enqueue (e := Entry.fresh b false) nofun
  exact State.testedLink_awaits (s := { s with link := s.link.enqueue (Entry.fresh b false) }) hqueued

theorem Link.Awaits.leave (h : l.Awaits pending) : l.leave.Awaits pending := by
  obtain ⟨hpending, hanswers⟩ := h
  refine ⟨?_, fun e he => hanswers e (List.eraseP_subset he)⟩
  rw [hpending, Link.leave]
  cases hfind : l.queue.find? Entry.inAttempt with
  | none =>
    have hnone := List.find?_eq_none.mp hfind
    have hno : (l.queue.any fun e => e.inAttempt && e.awaited) = false := by
      rw [List.any_eq_false]
      intro e he
      simp [hnone e he]
    dsimp only
    rw [hno, List.eraseP_of_forall_not hnone, Bool.or_false]
  | some v =>
    obtain ⟨x, y, hq, herase⟩ := eraseP_eq_append_cons hfind
    have hin : v.inAttempt = true := List.find?_some hfind
    dsimp only
    rw [herase, hq, Bool.eq_iff_iff]
    simp only [List.any_append, List.any_cons, Bool.or_eq_true, hin, Bool.true_and, List.any_eq_true,
      Bool.and_eq_true]
    constructor
    · rintro (hl | hx | hv | hy)
      · exact .inl (.inl hl)
      · exact .inr (.inl hx)
      · exact .inl (.inr (.inr (.inl hv)))
      · exact .inr (.inr hy)
    · rintro ((hl | ⟨e, he, -, ha⟩ | hv | ⟨e, he, -, ha⟩) | hx | hy)
      · exact .inl hl
      · exact .inr (.inl ⟨e, he, ha⟩)
      · exact .inr (.inr (.inl hv))
      · exact .inr (.inr (.inr ⟨e, he, ha⟩))
      · exact .inr (.inl hx)
      · exact .inr (.inr (.inr hy))

end Awaits

theorem Change.awaits {im : Image} {s t : State} (h : Change im s t) (hs : s.link.Awaits s.restartPending) :
    t.link.Awaits t.restartPending := by
  cases h with
  | settle =>
    rw [State.settleChannel_same State.restartPending (fun _ _ _ => rfl) (fun _ _ => rfl)]
    exact State.settleChannel_link (P := fun l => l.Awaits s.restartPending)
      (fun _ b hu => State.enqueue_awaits hu b) hs im _ _ _
  | rederive =>
    rw [State.rederiveAll_link, State.rederiveAll_same State.restartPending fun _ _ _ => rfl]
    exact hs
  | rejoin => exact State.testedLink_awaits (s := s.enterJoin) hs
  | silence =>
    obtain ⟨hpending, -⟩ := hs
    exact ⟨by simpa [Link.empty] using hpending, fun _ he => absurd he List.not_mem_nil⟩
  | enqueue b => exact State.enqueue_awaits hs b
  | awaitRestart src tag =>
    have hqueued := hs.enqueue (e := Entry.fresh (.answer ⟨src, tag, 13, .accepted, 255, .plain⟩) true) fun _ => rfl
    rw [show (s.restartPending || (Entry.fresh (.answer ⟨src, tag, 13, .accepted, 255, .plain⟩) true).awaited) = true from
      Bool.or_true _] at hqueued
    exact State.testedLink_awaits (s := { s with
      restartPending := true
      link := s.link.enqueue (Entry.fresh (.answer ⟨src, tag, 13, .accepted, 255, .plain⟩) true) }) hqueued
  | announce => exact State.testedLink_awaits (hs.of_same rfl rfl)
  | driven => exact hs.of_same rfl rfl
  | pack n => exact State.enqueue_awaits (s := { s with recs := { s.recs with queue := s.recs.queue.drop n } }) hs _
  | leave htx => exact hs.leave.of_same rfl rfl
  | _ => exact hs

theorem State.RestartAwaited.awaits {s : State} (h : s.RestartAwaited) : s.link.Awaits s.restartPending := by
  obtain ⟨hpending, hleft, hanswers⟩ := h
  exact ⟨by rw [hleft]; exact hpending, hanswers⟩

theorem Link.Awaits.restartAwaited {s : State} (h : s.link.Awaits s.restartPending) (hleft : s.link.awaitedLeft = false) :
    s.RestartAwaited := by
  obtain ⟨hpending, hanswers⟩ := h
  exact ⟨by rw [hleft] at hpending; exact hpending, hleft, hanswers⟩

theorem State.restartAwaited_of_held {s : State} (hqueue : s.link.queue = []) (hleft : s.link.awaitedLeft = false)
    (hpending : s.restartPending = false) : s.RestartAwaited := by
  unfold State.RestartAwaited
  rw [hqueue, hpending]
  exact ⟨rfl, hleft, fun _ he => absurd he List.not_mem_nil⟩

theorem Done.restartAwaited {s t : State} (hd : Done s t) (hphase : s.PhaseSound) (h : s.RestartAwaited) :
    t.RestartAwaited := by
  cases hd with
  | pinReset => exact State.restartAwaited_of_held rfl rfl rfl
  | lineIdle =>
    refine Link.Awaits.restartAwaited ?_ ?_
    · dsimp only
      split
      · exact Link.Awaits.beginAttempt (h.awaits.of_same (m := { s.link with line := .idle }) rfl rfl) _
      · exact h.awaits.of_same rfl rfl
    · dsimp only
      split
      · rw [Link.beginAttempt_awaitedLeft]; exact h.2.1
      · exact h.2.1
  | waitsAgain _ _ _ =>
    rename_i f _
    obtain ⟨hpending, hleft, hanswers⟩ := h
    have hawaited : ∀ e : Entry, (if e.inAttempt then { e with inAttempt := false, collisions := f e.collisions } else e :
        Entry).awaited = e.awaited := fun e => by split <;> rfl
    refine ⟨?_, hleft, fun e he ha => ?_⟩
    · simp only [waitAgain, List.any_map, Function.comp_def, hawaited]
      exact hpending
    · obtain ⟨x, hx, rfl⟩ := List.mem_map.mp he
      rw [hawaited] at ha
      have := hanswers x hx ha
      split <;> exact this
  | leavesUnserved htx hs =>
    obtain ⟨-, -, -, -, -, hlink, -⟩ := hphase.blocksHeld_of_service hs
    rw [hlink] at htx
    cases htx
  | restarts => exact State.restartAwaited_of_held rfl rfl rfl
  | event hs he hleft =>
    have hu := (he.keeps (P := fun u => u.link.Awaits u.restartPending) (fun _ _ _ hc => hc.awaits) hs h.awaits).2.2.2
    exact hu.restartAwaited (hleft.trans h.2.1)
  | ends hs he =>
    rename_i im u
    have hu := (he.keeps (P := fun u => u.link.Awaits u.restartPending) (fun _ _ _ hc => hc.awaits) hs h.awaits).2.2.2
    rcases u.settleRestart_cases with ⟨hleft, hsame⟩ | ⟨-, -, hbegins⟩ | ⟨hleft, hnot, -⟩
    · rw [hsame]; exact hu.restartAwaited hleft
    · rw [hbegins]; exact State.restartAwaited_of_held rfl rfl rfl
    · have hpending := hu.1
      rw [hleft, hnot] at hpending
      cases hpending
  | _ => exact h

/-! ### The test of R157 -/

/-- The test of R157 leaves no frame waiting before a line that is known to be idle. -/
theorem State.attemptTest_lineUsed {s : State} (hserved : s.service.isSome = true)
    (hown : s.link.tx ≠ .idle → s.link.line = .own) : s.attemptTest.LineUsed := by
  rcases s.attemptTest_cases with ⟨hnot, e⟩ | ⟨hmay, -, e⟩ | ⟨hmay, -, e⟩ <;> rw [e]
  · refine ⟨hown, fun htransmits hidle => Link.anyWaiting_eq_false.mp ?_⟩
    by_contra hwaits
    have htx : s.link.tx = .idle := by
      by_contra hdrives
      cases hidle.symm.trans (hown hdrives)
    rw [State.mayAttempt_iff.mpr ⟨hserved, htransmits, htx, hidle, by simpa using hwaits⟩] at hnot
    cases hnot
  · obtain ⟨-, -, -, -, hwaits⟩ := State.mayAttempt_iff.mp hmay
    unfold State.LineUsed
    dsimp only
    rcases s.link.beginAttempt_begins s.stationNumber with ⟨hno, -⟩ | ⟨a, -, e⟩ | ⟨p, x, en, y, -, -, e⟩
    · cases hno.symm.trans hwaits
    · rw [e]; exact ⟨fun _ => rfl, nofun⟩
    · rw [e]; exact ⟨fun _ => rfl, nofun⟩
  · obtain ⟨-, -, htx, -⟩ := State.mayAttempt_iff.mp hmay
    exact ⟨fun hdrives => absurd htx hdrives, nofun⟩

theorem State.enqueue_lineUsed {s : State} (hserved : s.service.isSome = true) (h : s.LineUsed) (b : Body)
    (awaited : Bool := false) : (s.enqueue b awaited).LineUsed :=
  State.attemptTest_lineUsed (s := { s with link := s.link.enqueue (Entry.fresh b awaited) }) hserved
    (by simpa using h.1)

theorem State.LineUsed.of_same {s t : State} (h : s.LineUsed) (hlink : t.link = s.link) (hstn : t.stn = s.stn) :
    t.LineUsed := by
  unfold State.LineUsed
  rw [hlink, hstn]
  exact h

theorem State.lineUsed_of_busy {s : State} (htx : s.link.tx = .idle) (hline : s.link.line ≠ .idle) : s.LineUsed :=
  ⟨fun hdrives => absurd htx hdrives, fun _ hidle => absurd hidle hline⟩

theorem Change.lineUsed {im : Image} {s t : State} (hserved : s.service = some im) (h : Change im s t)
    (hs : s.LineUsed) : t.LineUsed := by
  have hsome : s.service.isSome = true := by rw [hserved]; rfl
  cases h with
  | settle =>
    rename_i k after cause hk hevent
    rcases s.settleChannel_eq im k after cause with e | ⟨b, e⟩ <;> rw [e]
    · exact hs.of_same rfl rfl
    · exact State.enqueue_lineUsed hsome (hs.of_same rfl rfl) b
  | rederive f =>
    exact hs.of_same (State.rederiveAll_link _ im)
      (State.rederiveAll_same State.stn (fun _ _ _ => rfl) { s with flow := f } im)
  | restation hfrom _ => exact ⟨hs.1, fun _ => hs.2 hfrom⟩
  | rejoin =>
    refine State.attemptTest_lineUsed (s := s.enterJoin) ?_ hs.1
    obtain ⟨-, hconfig⟩ := State.service_eq_some.mp hserved
    have hjoined : s.enterJoin.service = some im := State.service_eq_some.mpr ⟨rfl, hconfig⟩
    rw [hjoined]; rfl
  | silence htx => exact ⟨fun hdrives => absurd htx hdrives, nofun⟩
  | enqueue b => exact State.enqueue_lineUsed hsome hs b
  | awaitRestart => exact State.enqueue_lineUsed (s := { s with restartPending := true }) hsome hs _ true
  | announce => exact State.attemptTest_lineUsed hsome hs.1
  | driven htx => exact State.lineUsed_of_busy htx (by simp)
  | pack n =>
    exact State.enqueue_lineUsed (s := { s with recs := { s.recs with queue := s.recs.queue.drop n } }) hsome hs _
  | leave => exact State.lineUsed_of_busy rfl (show Line.own ≠ .idle by decide)
  | _ => exact hs.of_same rfl rfl

theorem State.lineUsed_of_held {s : State} (htx : s.link.tx = .idle) (hslot : s.link.slot = none)
    (hqueue : s.link.queue = []) : s.LineUsed := by
  refine ⟨fun hdrives => absurd htx hdrives, fun _ _ => ⟨hslot, ?_⟩⟩
  rw [hqueue]
  exact fun _ he => absurd he List.not_mem_nil

theorem State.PhaseSound.served_of_transmits {s : State} (h : s.PhaseSound) (ht : s.stn.transmits = true) :
    s.service.isSome = true := by
  obtain ⟨-, -, hconfig, -⟩ := h
  have hserves : s.stn.inService = true := by
    revert ht
    cases s.stn <;> simp [StationState.transmits, StationState.inService]
  rw [State.service, if_pos hserves]
  exact hconfig hserves

theorem Done.lineUsed {s t : State} (hd : Done s t) (hphase : s.PhaseSound) (h : s.LineUsed) : t.LineUsed := by
  cases hd with
  | pinReset => exact State.lineUsed_of_held rfl rfl rfl
  | halts => exact ⟨h.1, nofun⟩
  | loads hread =>
    obtain ⟨-, -, -, -, -, hlink, -⟩ := hphase.blocksHeld_of_reading hread
    refine State.lineUsed_of_held (s := s.enterService _) ?_ ?_ ?_
    · exact congrArg Link.tx hlink
    · exact congrArg Link.slot hlink
    · exact congrArg Link.queue hlink
  | lineIdle htx =>
    unfold State.LineUsed
    dsimp only
    split
    · rcases ({ s.link with line := .idle } : Link).beginAttempt_begins s.stationNumber with
        ⟨hno, e⟩ | ⟨a, -, e⟩ | ⟨p, x, en, y, -, -, e⟩ <;> rw [e]
      · exact ⟨fun hdrives => absurd htx hdrives, fun _ _ => Link.anyWaiting_eq_false.mp hno⟩
      · exact ⟨fun _ => rfl, nofun⟩
      · exact ⟨fun _ => rfl, nofun⟩
    next hno =>
      refine ⟨fun hdrives => absurd htx hdrives, fun htransmits => ?_⟩
      simp [hphase.served_of_transmits htransmits, htransmits] at hno
  | waitsAgain _ hline _ => exact State.lineUsed_of_busy rfl hline
  | demandEnds _ hline => exact State.lineUsed_of_busy rfl hline
  | leavesUnserved => exact State.lineUsed_of_busy rfl (show Line.own ≠ .idle by decide)
  | restarts => exact State.lineUsed_of_held rfl rfl rfl
  | event hs he => exact (he.keeps (fun _ _ hserved hc => hc.lineUsed hserved) hs h).2.2.2
  | ends hs he =>
    rename_i im u
    have hu := (he.keeps (fun _ _ hserved hc => hc.lineUsed hserved) hs h).2.2.2
    rcases u.settleRestart_cases with ⟨-, hsame⟩ | ⟨-, -, hbegins⟩ | ⟨-, -, hmark⟩
    · rwa [hsame]
    · rw [hbegins]; exact State.lineUsed_of_held rfl rfl rfl
    · rw [hmark]; exact hu
  | _ => exact h.of_same rfl rfl

/-- Settles O58: each change of an event keeps the entry IN ATTEMPT and the mark of the awaited ANSWER, and where a frame may
come to wait before an idle line the test of R157 is made. -/
theorem theLinkStaysSound : Obligations.TheLinkStaysSound := by
  intro s t hstep
  rcases step_cases hstep with rfl | ⟨_, _, hd | ⟨hs, litres, -⟩⟩
  · exact ⟨fun h => h, fun _ h => h, fun _ h => h.of_same rfl rfl⟩
  · exact ⟨hd.link_sound, hd.restartAwaited, hd.lineUsed⟩
  · exact ⟨fun h => h, fun _ h => h, fun _ h => h.of_same rfl rfl⟩

end Sys2Proof.Machine
end

section
/-! The queue of commands, the passage of time and the pin reset: what a step takes, which expiries are due, and what the
reset leaves. -/

namespace Sys2Proof.Machine

/-- Settles O1: it is the first case of the step. -/
theorem stepTakesTheFrontCommand : Obligations.StepTakesTheFrontCommand := by
  intro c rest s h
  unfold step
  rw [h]

/-! ### The expiries that are due -/

theorem Timer.due_iff {t : Timer} : t.due = true ↔ t = some 0 := beq_iff_eq

theorem mem_dueIf {t : Timer} {c i : Instr} : i ∈ dueIf t c ↔ i = c ∧ t = some 0 := by
  unfold dueIf
  split
  next h => simp [Timer.due_iff.mp h]
  next h => simp [mt Timer.due_iff.mpr h]

theorem Loader.mem_dueCommands {l : Loader} {i : Instr} : i ∈ l.dueCommands ↔
    (i = .transactionTimeout ∧ l.phase = .reading ∧ l.timer = some 0) ∨
    (i = .retryWait ∧ l.phase = .waiting ∧ l.timer = some 0) := by
  unfold Loader.dueCommands
  cases l.phase <;> simp [mem_dueIf]

/-- The first PENDING entry is due: it stands behind a run of MISSED ones (R99, R101). -/
theorem deadlineDue_iff {es : List Stroke} : deadlineDue es = true ↔
    ∃ missed rest, es = missed ++ ⟨.pending, 0⟩ :: rest ∧ ∀ e ∈ missed, e.state = .missed := by
  have hmissed : ∀ x : StrokeState, (!(x == .pending)) = true ↔ x = .missed := by intro x; cases x <;> decide
  unfold deadlineDue
  rw [Option.any_eq_true]
  constructor
  · rintro ⟨⟨st, n⟩, hfind, hdue⟩
    obtain ⟨hst, missed, rest, hes, hall⟩ := List.find?_eq_some_iff_append.mp hfind
    obtain rfl : st = .pending := beq_iff_eq.mp hst
    obtain rfl : n = 0 := beq_iff_eq.mp hdue
    exact ⟨missed, rest, hes, fun e he => (hmissed _).mp (hall e he)⟩
  · rintro ⟨missed, rest, rfl, hall⟩
    exact ⟨⟨.pending, 0⟩, List.find?_eq_some_iff_append.mpr
      ⟨rfl, missed, rest, rfl, fun e he => (hmissed _).mpr (hall e he)⟩, rfl⟩

theorem graceDue_iff {es : List Stroke} : graceDue es = true ↔ ∃ rest, es = ⟨.missed, 0⟩ :: rest := by
  cases es with
  | nil => simp [graceDue]
  | cons e es =>
    obtain ⟨st, n⟩ := e
    simp [graceDue]

theorem mem_ite_singleton {i c : Instr} {b : Bool} : i ∈ (if b then [c] else []) ↔ i = c ∧ b = true := by
  cases b <;> simp

theorem Channel.mem_dueCommands {c : Channel} {k : Fin 4} {i : Instr} : i ∈ c.dueCommands k ↔
    (i = .doseUpdate k ∧ c.dose.timer = some 0) ∨ (i = .strokeIntervalExpiry k ∧ c.feeder.timer = some 0) ∨
    (i = .alertTimerExpiry k .low ∧ c.sup.tL = some 0) ∨ (i = .alertTimerExpiry k .high ∧ c.sup.tH = some 0) ∨
    (i = .alertTimerExpiry k .highHigh ∧ c.sup.tHH = some 0) ∨
    (i = .runOnTimerExpiry k ∧ c.sup.runOnTimer = some 0) ∨
    (i = .quietTimerExpiry k ∧ c.sup.quietTimer = some 0) ∨
    (∃ missed rest, i = .deadlineExpiry k ∧ c.feeder.strokes = missed ++ ⟨.pending, 0⟩ :: rest ∧
      ∀ e ∈ missed, e.state = .missed) ∨
    (∃ rest, i = .graceDeadlineExpiry k ∧ c.feeder.strokes = ⟨.missed, 0⟩ :: rest) := by
  simp only [Channel.dueCommands, List.mem_append, mem_dueIf, mem_ite_singleton, deadlineDue_iff, graceDue_iff,
    or_assoc, exists_and_left]

theorem mem_analyzerNumbers (a : Fin 8) : a ∈ analyzerNumbers := by fin_cases a <;> decide

theorem mem_channelNumbers (k : Fin 4) : k ∈ channelNumbers := by fin_cases k <;> decide

theorem State.mem_dueCommands {s : State} {i : Instr} : i ∈ s.dueCommands ↔
    i ∈ s.loader.dueCommands ∨ (i = .flowSample ∧ s.flow.sampleTimer = some 0) ∨
    (i = .idleTimerExpiry ∧ s.flow.idleTimer = some 0) ∨ (i = .settleTimerExpiry ∧ s.selector.timer = some 0) ∨
    (i = .messageGap ∧ s.intake.gapTimer = some 0) ∨
    (∃ a, i = .freshnessTimerExpiry a ∧ (s.intake.records.get a).timer = some 0) ∨
    (∃ k, i ∈ (s.channel k).dueCommands k) ∨ (i = .announceExpiry ∧ s.peer.timer = some 0) ∨
    (i = .reportTimerExpiry ∧ s.recs.timer = some 0) := by
  simp only [State.dueCommands, List.mem_append, List.mem_flatMap, mem_dueIf, mem_analyzerNumbers, mem_channelNumbers,
    true_and, or_assoc]

/-- The expiry that a step takes is one of those that are due. -/
theorem nextExpiry_due {s : State} (h : s.dueCommands ≠ []) :
    ∃ i s', nextExpiry s = some (i, s') ∧ i ∈ s.dueCommands ∧ (s' = s ∨ s' = s.choiceRead) := by
  unfold nextExpiry
  match hdue : s.dueCommands with
  | [] => exact absurd hdue h
  | [c] => exact ⟨c, s, rfl, List.mem_cons_self, .inl rfl⟩
  | c :: d :: cs =>
    have hlt : s.choice % (cs.length + 2) < (c :: d :: cs).length := Nat.mod_lt _ (by simp)
    refine ⟨_, _, rfl, ?_, .inr rfl⟩
    rw [List.getD_eq_getElem _ _ hlt]
    exact List.getElem_mem hlt

theorem nextExpiry_of_none_due {s : State} (h : s.dueCommands = []) : nextExpiry s = none := by
  unfold nextExpiry
  rw [h]

theorem step_of_next {s s' : State} {i : Instr} (h : s.pending = []) (hnext : nextExpiry s = some (i, s')) :
    step s = exec i s' := by
  unfold step
  simp only [h, hnext]

theorem step_of_none_due {s : State} (h : s.pending = []) (hnone : s.dueCommands = []) : step s = .next s.elapse := by
  unfold step
  simp only [h, nextExpiry_of_none_due hnone]

/-- Settles O2: the due expiries are read off the timers one by one, and a free choice picks among them. -/
theorem anEmptyQueueLetsTimePass : Obligations.AnEmptyQueueLetsTimePass := by
  intro s hpending
  refine ⟨fun hnone => ⟨s.elapse, ?_, rfl, fun a => ?_, fun k => ?_⟩, fun hdue => ?_, fun c => ?_⟩
  · exact step_of_none_due hpending hnone
  · exact Eight.get_ofFn _ a
  · exact s.elapse_channel k
  · obtain ⟨i, s', hnext, hi, hs'⟩ := nextExpiry_due hdue
    have hstep := step_of_next hpending hnext
    rcases hs' with rfl | rfl
    · exact ⟨i, hi, s'.freeCount, le_rfl, Nat.le_succ _, hstep⟩
    · exact ⟨i, hi, s.freeCount + 1, Nat.le_succ _, le_rfl, hstep⟩
  · simp only [State.mem_dueCommands, Loader.mem_dueCommands, Channel.mem_dueCommands, exists_or, or_assoc]

/-! ### The pin reset -/

theorem HealthTable.reset_attributes : HealthTable.reset.attributes = List.replicate 14 Attr.reset := rfl

/-- Settles O3: the reset sets each of these parts. -/
theorem pinResetClearsThePart : Obligations.PinResetClearsThePart := by
  intro s
  refine ⟨s.pinReset, rfl, rfl, rfl, rfl, rfl, rfl, s.pinReset_blocksHeld, rfl, rfl, rfl, rfl, rfl, rfl, rfl, rfl, rfl,
    rfl, rfl, rfl, fun a ha => ?_, fun k => ?_, rfl, rfl⟩
  · have hreset : a = Attr.reset := List.eq_of_mem_replicate (n := 14) (HealthTable.reset_attributes ▸ ha)
    subst hreset
    exact ⟨rfl, rfl, rfl⟩
  · rw [s.pinReset_channel k]
    exact ⟨rfl, rfl, rfl, rfl, rfl, rfl, rfl, rfl, rfl, rfl, rfl, rfl, rfl⟩

theorem State.reset_channel (k : Fin 4) : State.reset.channel k = Channel.held := Four.get_all _ k

/-- Settles O51: the part is outside service with every block held, so the laws of service are void. -/
theorem resetIsLawful : Obligations.ResetIsLawful := by
  have hunserved : ∀ im, State.reset.service ≠ some im := fun im h => by cases h
  refine ⟨⟨fun k => ?_, rfl⟩, ?_, ?_, fun im h => absurd h (hunserved im), fun im h => absurd h (hunserved im),
    fun im h => absurd h (hunserved im), fun im h => absurd h (hunserved im), fun k => ?_, fun k => ?_,
    fun im h => absurd h (hunserved im), Link.emptied_sound rfl rfl rfl, State.restartAwaited_of_held rfl rfl rfl,
    State.lineUsed_of_held rfl rfl rfl, .emptied (Nat.zero_le _) rfl⟩
  · rw [State.reset_channel]; rfl
  · exact ⟨fun _ => ⟨rfl, rfl⟩, fun hp => absurd rfl hp, nofun, nofun,
      fun _ hi => (Option.some_ne_none _ hi.symm).elim, fun _ => State.reset.pinReset_blocksHeld⟩
  · exact ⟨Nat.zero_le _, fun i => by rw [show State.reset.flow.ring.get i = 0 from Four.get_all _ i]; exact Nat.zero_le _,
      rfl, Nat.zero_le _⟩
  · rw [State.reset_channel]; simp [Supervisor.TimersMatch, Channel.held, Supervisor.held]
  · rw [State.reset_channel]; rintro (h | h) <;> cases h

end Sys2Proof.Machine
end

section
/-! Start-up (Chapter 11): how the read of the image goes on, how it ends, and what HALTED, the load and a restart keep. -/

namespace Sys2Proof.Machine

/-! ### Attempts -/

theorem headerUsable_iff {data : List Byte} (hlen : data.length = 3) :
    headerUsable data = true ↔ data = [0x01, 0x02, 0x1B] := by
  obtain ⟨a, b, c, rfl⟩ := List.length_eq_three.mp hlen
  have hspells : headerUsable [a, b, c] = true ↔ a.toNat = 1 ∧ b.toNat * 256 + c.toNat = 539 := by
    simp [headerUsable, beNat, imageLength]
  have hb := b.isLt
  have hc := c.isLt
  rw [hspells]
  constructor
  · rintro ⟨ha, hbc⟩
    obtain rfl : a = 0x01 := by bv_omega
    obtain rfl : b = 0x02 := by bv_omega
    obtain rfl : c = 0x1B := by bv_omega
    rfl
  · rintro ⟨⟩
    exact ⟨rfl, rfl⟩

/-- A transaction of the read that fails, by itself or at its 25 ms. -/
theorem exec_failedAttempt {s : State} {c : Instr} (hphase : s.loader.phase = .reading)
    (hc : c = .readTransaction .failed ∨ (c = .transactionTimeout ∧ s.loader.timer = some 0)) :
    exec c s = .next s.attemptFails := by
  rcases hc with rfl | ⟨rfl, hdue⟩
  · exact if_pos hphase
  · exact if_pos ⟨hphase, Timer.due_iff.mpr hdue⟩

theorem exec_completed {s : State} {data : List Byte} (hphase : s.loader.phase = .reading)
    (hlen : data.length = s.loader.part.size) :
    exec (.readTransaction (.completed data)) s = .next (s.partRead data) :=
  (if_pos hphase).trans (if_pos hlen)

/-- The CRC, the last part, brings the check of the image (R166). -/
theorem State.partRead_crc {s : State} (hpart : s.loader.part = .crc) (data : List Byte) :
    s.partRead data = ((checkImage (s.loader.bytes ++ data)).map s.enterService).getD s.halt := by
  cases hcheck : checkImage (s.loader.bytes ++ data) <;> simp [State.partRead, hpart, Part.next, hcheck]

/-- Settles O4: the four transitions of the Loader, each an equation of its command. -/
theorem theReadGoesOnAndRetries : Obligations.TheReadGoesOnAndRetries := by
  refine ⟨fun s hlow => ?_, fun s p q data hphase hpart hnext hlen hheader => ?_, fun s c hphase hfew hc => ?_,
    fun s hphase hdue => ?_⟩
  · exact if_neg (by simp [hlow])
  · subst hpart
    rw [exec_completed hphase hlen]
    have husable : ¬ (s.loader.part = .header ∧ headerUsable data = false) := by
      rintro ⟨hpart, hbad⟩
      rw [hpart] at hlen
      simp [(headerUsable_iff hlen).mpr (hheader hpart)] at hbad
    unfold State.partRead
    rw [if_neg husable, hnext]
    rfl
  · rw [exec_failedAttempt hphase hc]
    unfold State.attemptFails
    rw [if_neg (by simp only [attemptLimit]; omega)]
    rfl
  · exact if_pos ⟨hphase, Timer.due_iff.mpr hdue⟩

theorem HealthTable.unconfigure_attributes (h : HealthTable) :
    h.unconfigure.attributes = h.attributes.map fun a => { a with threshold := 0 } := rfl

/-- Settles O5: each of the ways in which a read fails for good halts the part. -/
theorem aBadImageHaltsThePart : Obligations.ABadImageHaltsThePart := by
  intro s c hphase hbad
  have hhalts : exec c s = .next s.halt := by
    rcases hbad with ⟨hthree, hc⟩ | ⟨data, rfl, hlen, ⟨hpart, hdata⟩ | ⟨hpart, hcheck⟩⟩
    · rw [exec_failedAttempt hphase hc]
      unfold State.attemptFails
      rw [if_pos (by simp only [attemptLimit]; omega)]
    · rw [exec_completed hphase hlen]
      rw [hpart] at hlen
      have hunusable : headerUsable data = false := by
        rw [Bool.eq_false_iff]
        exact fun h => hdata ((headerUsable_iff hlen).mp h)
      unfold State.partRead
      rw [if_pos ⟨hpart, hunusable⟩]
    · rw [exec_completed hphase hlen, State.partRead_crc hpart, hcheck]
      rfl
  exact ⟨s.halt, hhalts, rfl, rfl, rfl, rfl, rfl, rfl, fun k => s.halt_channel k, s.recs.health.unconfigure_attributes⟩

/-! ### The load -/

theorem ChannelConfig.configured_iff {cc : ChannelConfig} : cc.configured = true ↔ cc.kind ≠ .none := bne_iff_ne

/-- The last bytes of a valid image take the part into service (R168). -/
theorem exec_lastPart {s : State} {data : List Byte} {im : Image} (hphase : s.loader.phase = .reading)
    (hpart : s.loader.part = .crc) (hlen : data.length = 2) (hcheck : checkImage (s.loader.bytes ++ data) = some im) :
    exec (.readTransaction (.completed data)) s = .next (s.enterService im) := by
  rw [exec_completed hphase (by rw [hpart]; exact hlen), State.partRead_crc hpart, hcheck]
  rfl

section Loaded

variable {c : Channel} {cc : ChannelConfig}

theorem Channel.loaded_of_configured (h : cc.kind ≠ .none) (sameKind : Bool) (selector : Fin 8) (k : Fin 4) :
    c.loaded cc sameKind selector k =
      { state := (c.sup.loaded cc sameKind).derive false
        dose := loadedDose cc selector k
        feeder := { FeederDrive.held with inh := (c.sup.loaded cc sameKind).derive false == .locked }
        sup := c.sup.loaded cc sameKind
        iv := { Interval.zero with condActive := (c.sup.loaded cc sameKind).anyActive } } :=
  if_pos (ChannelConfig.configured_iff.mpr h)

theorem Channel.loaded_of_none (h : cc.kind = .none) (sameKind : Bool) (selector : Fin 8) (k : Fin 4) :
    c.loaded cc sameKind selector k =
      { Channel.held with
        feeder := { FeederDrive.held with inh := false }
        sup := { Supervisor.held with lockout := c.sup.lockout } } :=
  if_neg (by simp [ChannelConfig.configured_iff, h])

/-- After the load a channel is LOCKED by a kept lock, else in DOSING (R130, R168). -/
theorem Supervisor.loaded_derive (p : Supervisor) (sameKind : Bool) : (p.loaded cc sameKind).derive false =
    if (p.loaded cc sameKind).highHigh = .active ∨ (p.loaded cc sameKind).runOn = .active then .locked else .dosing := by
  unfold Supervisor.derive
  simp [Supervisor.loaded, Supervisor.held]

theorem Supervisor.loaded_anyActive (p : Supervisor) (sameKind : Bool) : (p.loaded cc sameKind).anyActive =
    decide ((p.loaded cc sameKind).highHigh = .active ∨ (p.loaded cc sameKind).runOn = .active) := by
  rw [Bool.eq_iff_iff]
  simp [Supervisor.anyActive, Supervisor.loaded, Supervisor.held]

end Loaded

/-- Settles O7: the conditions of a lock that the load keeps, and the state derived from them. -/
theorem theLoadKeepsALock : Obligations.TheLoadKeepsALock := by
  intro s data old im hphase hpart hlen hcheck hold
  refine ⟨s.enterService im, exec_lastPart hphase hpart hlen hcheck, fun k => ?_⟩
  rw [State.enterService_channel]
  have hsame : s.sameKind im k = decide ((old.channel k).kind = (im.channel k).kind) := by
    simp only [State.sameKind, hold, Option.any_some]
    rfl
  dsimp only
  by_cases hk : (im.channel k).kind = .none
  · rw [Channel.loaded_of_none hk]
    exact ⟨rfl, fun _ => ⟨rfl, rfl⟩, fun _ h => absurd hk h, rfl, rfl, rfl, rfl, fun h => absurd hk h, fun _ => rfl,
      fun h => absurd hk h, nofun, nofun⟩
  · rw [Channel.loaded_of_configured hk, Supervisor.loaded_derive, Supervisor.loaded_anyActive]
    dsimp only
    refine ⟨rfl, fun hne => ?_, fun heq _ => ⟨?_, ?_⟩, rfl, rfl, rfl, rfl, fun _ => rfl, fun h => absurd h hk,
      fun _ => ?_, ?_⟩
    · simp [Supervisor.loaded, hsame, hne]
    · simp [Supervisor.loaded, hsame, heq]
    · simp only [Supervisor.loaded, hsame, heq, decide_true, Bool.true_and, ChannelConfig.cannotRelease]
      simp
      split_ifs <;> simp_all
    · split_ifs with hlocked <;> simp [hlocked]
    · split_ifs <;> simp

/-! ### A restart -/

theorem keptCondition_of_locked (c : Cond) : keptCondition true c = .active ↔ c = .active := by
  cases c <;> decide

theorem HealthTable.restarted_attributes (h : HealthTable) : h.restarted.attributes = h.attributes.map Attr.restarted :=
  rfl

/-- Settles O8: RESTART_BEGINS is the start of a restart, read part by part. -/
theorem aRestartKeepsWhatItMust : Obligations.ARestartKeepsWhatItMust := by
  intro s im hs hpending hawaited
  have hexec : exec .restartBegins s = .next s.beginRestart := by
    have hleaves : (s.restartPending && s.link.queue.any Entry.awaited) = true := by
      rw [hpending, Bool.true_and, List.any_eq_true]
      exact hawaited
    show execRestartBegins s = _
    unfold execRestartBegins
    rw [hs]
    exact if_pos hleaves
  refine ⟨s.beginRestart, hexec, rfl, rfl, rfl, s.beginRestart_blocksHeld, rfl, rfl, rfl, fun a ha => ?_, ?_, rfl, rfl,
    rfl, rfl, fun k => ?_⟩
  · obtain ⟨b, -, rfl⟩ := List.mem_map.mp (s.recs.health.restarted_attributes ▸ ha)
    rfl
  · exact congrArg (List.map fun a => (a.worst, a.raw, a.threshold)) s.recs.health.restarted_attributes
  · rw [s.beginRestart_channel k]
    refine ⟨rfl, rfl, rfl, rfl, rfl, rfl, fun hlocked => ?_, fun hfree => ?_⟩
    · simp [Channel.heldForRestart, Supervisor.heldForRestart, hlocked, keptCondition_of_locked]
    · simp [Channel.heldForRestart, Supervisor.heldForRestart, hfree, keptCondition]

end Sys2Proof.Machine
end

section
/-! The configuration image (11.2, 12.6): what the check of an image reads is what the layout says byte by byte, and the
statement that a valid image begins service. -/

namespace Sys2Proof.Machine

/-! ### Ranges -/

theorem within_iff {lo hi n : Nat} : within lo hi n = true ↔ lo ≤ n ∧ n ≤ hi := by simp [within]

theorem StationConfig.valid_iff {c : StationConfig} : c.valid = true ↔ c.InRange := by
  simp only [StationConfig.valid, StationConfig.InRange, Bool.and_eq_true, within_iff]
  omega

theorem GroupConfig.valid_iff {c : GroupConfig} :
    c.valid = true ↔ c.maxCapacity ≤ 16000000 ∧ c.fallback ≤ c.maxCapacity := by
  simp [GroupConfig.valid, within_iff]

theorem Eight.all_toList {α : Type} (v : Eight α) (p : α → Bool) :
    v.toList.all p = true ↔ ∀ i, p (v.get i) = true := by
  rw [List.all_eq_true]
  refine ⟨fun h i => h _ (v.mem_toList i), fun h x hx => ?_⟩
  simp only [Eight.toList, List.mem_cons, List.not_mem_nil, or_false] at hx
  rcases hx with rfl | rfl | rfl | rfl | rfl | rfl | rfl | rfl
  exacts [h 0, h 1, h 2, h 3, h 4, h 5, h 6, h 7]

theorem Four.all_toList {α : Type} (v : Four α) (p : α → Bool) : v.toList.all p = true ↔ ∀ i, p (v.get i) = true := by
  rw [List.all_eq_true]
  refine ⟨fun h i => h _ ((v.mem_toList _).mpr ⟨i, rfl⟩), fun h x hx => ?_⟩
  obtain ⟨i, rfl⟩ := (v.mem_toList x).mp hx
  exact h i

/-- The ranges that every configured channel's block obeys, beside those of its profiles (12.6, R23). -/
theorem ChannelConfig.commonValid_iff {c : ChannelConfig} : c.commonValid = true ↔
    (100 ≤ c.vs ∧ c.vs ≤ 100000 ∧ 1 ≤ c.sp ∧ c.sp ≤ 2000 ∧ 100 ≤ c.tmin ∧ c.tmin ≤ 60000 ∧
    50 ≤ c.confirmWindow ∧ c.confirmWindow ≤ 5000 ∧ 1 ≤ c.missLimit ∧ c.missLimit ≤ 8 ∧
    1 ≤ c.nativeCeiling ∧ c.nativeCeiling ≤ 20000 ∧ c.volume ≤ 50000000 ∧ c.runOnTime ≤ 60 ∧
    c.feedThreshold ≤ 100 ∧ c.shareThreshold ≤ 100 ∧ c.samplesThreshold ≤ 100 ∧
    1 ≤ c.vs * c.sp / 1000 ∧ 1 ≤ c.vs * c.sp / 1000 * 1000 / c.tmin) ∧
    ∀ i, Profile.valid c.kind c.nativeCeiling (c.profiles.get i) = true := by
  simp only [ChannelConfig.commonValid, Bool.and_eq_true, within_iff, decide_eq_true_eq, Eight.all_toList,
    Nat.zero_le, true_and, and_assoc]
  rfl

theorem ChannelConfig.chlorineValid_iff {c : ChannelConfig} : c.chlorineValid = true ↔
    1 ≤ c.historyStep ∧ c.historyStep ≤ 100 ∧ c.lowLimit ≤ 1000 ∧ c.lowRecovery ≤ 1000 ∧
      c.highLimit ≤ 1000 ∧ c.highRecovery ≤ 1000 ∧ c.hhLimit ≤ 1000 ∧ c.tL ≤ 600 ∧ c.tH ≤ 600 ∧
      c.tHH ≤ 600 ∧ c.lowLimit < c.lowRecovery ∧ c.highRecovery < c.highLimit ∧ c.highLimit < c.hhLimit ∧
      c.lowLimit < c.highLimit := by
  simp only [ChannelConfig.chlorineValid, Bool.and_eq_true, within_iff, decide_eq_true_eq, Nat.zero_le, true_and,
    and_assoc]

theorem ChannelConfig.valid_iff {c : ChannelConfig} : c.valid = true ↔ (c.kind ≠ .none → c.InRange) := by
  unfold ChannelConfig.valid ChannelConfig.InRange
  cases hkind : c.kind with
  | none => simp
  | coagulant => simp [ChannelConfig.commonValid_iff, hkind, Profile.valid, within_iff, and_assoc]
  | chlorine =>
    simp [ChannelConfig.commonValid_iff, ChannelConfig.chlorineValid_iff, hkind, Profile.valid, within_iff, and_assoc]

theorem Image.valid_iff {im : Image} : im.valid = true ↔ im.InRange := by
  simp only [Image.valid, Image.InRange, Bool.and_eq_true, Four.all_toList, StationConfig.valid_iff,
    GroupConfig.valid_iff, ChannelConfig.valid_iff, and_assoc]
  rfl

/-! ### Fields at their places -/

section Fields

variable {bs : List Byte} {a n o : Nat}

theorem field_one (hn : o + 1 ≤ n) (hlen : a + o < bs.length) :
    field ((bs.drop a).take n) o 1 = octetAt bs (a + o) := by
  rw [field_of_block _ _ hn, beNat_take_one hlen]

theorem field_two (hn : o + 2 ≤ n) (hlen : a + o + 1 < bs.length) :
    field ((bs.drop a).take n) o 2 = pairAt bs (a + o) := by
  rw [field_of_block _ _ hn, beNat_take_two hlen]

theorem field_four (hn : o + 4 ≤ n) (hlen : a + o + 3 < bs.length) :
    field ((bs.drop a).take n) o 4 = quadAt bs (a + o) := by
  rw [field_of_block _ _ hn, beNat_take_four hlen]

end Fields

theorem StationConfig.storedIn_iff {c : StationConfig} {bs : List Byte} (hlen : bs.length = 539) :
    c.StoredIn bs ↔ c = readStation ((bs.drop 3).take 18) := by
  cases c
  simp only [StationConfig.StoredIn, readStation, StationConfig.mk.injEq]
  simp [field_one, field_two, hlen]

theorem GroupConfig.stored_iff {c : GroupConfig} {bs : List Byte} (hlen : bs.length = 539) (g : Fin 4) :
    c = ⟨quadAt bs (21 + 8 * g.val), quadAt bs (25 + 8 * g.val)⟩ ↔
      c = readGroup ((bs.drop (groupOffset g.val)).take 8) := by
  have hg := g.isLt
  rw [readGroup, groupOffset, field_four (by decide) (by omega), field_four (by decide) (by omega)]
  rw [Nat.add_zero, show 21 + 8 * g.val + 4 = 25 + 8 * g.val by omega]

/-! ### Channel blocks -/

theorem kindOf_eq_some {code : Nat} {kind : Kind} : kindOf code = some kind ↔
    (code = 0 ∧ kind = .none) ∨ (code = 1 ∧ kind = .coagulant) ∨ (code = 2 ∧ kind = .chlorine) := by
  unfold kindOf
  split <;> cases kind <;> simp_all

theorem fourOf_eq_some {n : Nat} {g : Fin 4} : fourOf n = some g ↔ g.val = n := by
  unfold fourOf
  split
  next h => simp [Fin.ext_iff, eq_comm]
  next h =>
    have := g.isLt
    simp
    omega

theorem eightOf_eq_some {n : Nat} {a : Fin 8} : eightOf n = some a ↔ n = a.val := by
  unfold eightOf
  split
  next h => simp [Fin.ext_iff]
  next h =>
    have := a.isLt
    simp
    omega

theorem analyzerOf_eq_some {n : Nat} {x : Option (Fin 8)} :
    analyzerOf n = some x ↔ n = 255 ∧ x = none ∨ ∃ a, n = a.val ∧ x = some a := by
  have hsmall : ∀ a : Fin 8, a.val ≠ 255 := fun a => by have := a.isLt; omega
  unfold analyzerOf
  split
  next h =>
    subst h
    simp only [Option.some.injEq, true_and, eq_comm (a := x), fun a : Fin 8 => (hsmall a).symm, false_and, exists_false,
      or_false]
  next h => simp [Option.map_eq_some_iff, eightOf_eq_some, h, eq_comm (a := x)]

theorem Eight.ext_get {α : Type} {v w : Eight α} (h : ∀ i, v.get i = w.get i) : v = w := by
  cases v; cases w
  have h0 := h 0; have h1 := h 1; have h2 := h 2; have h3 := h 3
  have h4 := h 4; have h5 := h 5; have h6 := h 6; have h7 := h 7
  simp only [Eight.get] at h0 h1 h2 h3 h4 h5 h6 h7
  subst h0 h1 h2 h3 h4 h5 h6 h7; rfl

/-- A profile of a channel block, read from the image itself. -/
theorem readProfile_of_block {bs : List Byte} {o : Nat} (hlen : o + 121 ≤ bs.length) {kind : Kind} (hk : kind ≠ .none)
    (i : Fin 8) :
    readProfile kind ((((bs.drop o).take 121).drop (41 + 10 * i.val)).take 10) =
      if kind = .chlorine then
        ⟨0, 0, 0, pairAt bs (o + 41 + 10 * i.val + 6), pairAt bs (o + 41 + 10 * i.val + 8)⟩
      else ⟨pairAt bs (o + 41 + 10 * i.val), pairAt bs (o + 41 + 10 * i.val + 2), pairAt bs (o + 41 + 10 * i.val + 4),
        0, 0⟩ := by
  have hi := i.isLt
  have hblock : (((bs.drop o).take 121).drop (41 + 10 * i.val)).take 10 = (bs.drop (o + 41 + 10 * i.val)).take 10 := by
    rw [List.drop_take, List.take_take, List.drop_drop, min_eq_left (by omega), Nat.add_assoc]
  have hpair : ∀ n, n + 2 ≤ 10 →
      field ((bs.drop (o + 41 + 10 * i.val)).take 10) n 2 = pairAt bs (o + 41 + 10 * i.val + n) :=
    fun n hn => field_two hn (by omega)
  rw [hblock]
  cases kind with
  | none => exact absurd rfl hk
  | coagulant => simp [readProfile, hpair]
  | chlorine => simp [readProfile, hpair]

/-- The settings at an offset are the fields of the block that is read there. -/
theorem ChannelConfig.settingsAt_iff {c : ChannelConfig} {bs : List Byte} {o : Nat} (hlen : o + 121 ≤ bs.length)
    (hk : c.kind ≠ .none) : c.SettingsAt bs o ↔
      fourOf (octetAt bs (o + 1)) = some c.group ∧ analyzerOf (octetAt bs (o + 2)) = some c.analyzer ∧
        c = readConfigured c.kind c.group c.analyzer ((bs.drop o).take 121) := by
  have hone : ∀ n, n + 1 ≤ 121 → field ((bs.drop o).take 121) n 1 = octetAt bs (o + n) :=
    fun n hn => field_one hn (by omega)
  have htwo : ∀ n, n + 2 ≤ 121 → field ((bs.drop o).take 121) n 2 = pairAt bs (o + n) :=
    fun n hn => field_two hn (by omega)
  have hfour : ∀ n, n + 4 ≤ 121 → field ((bs.drop o).take 121) n 4 = quadAt bs (o + n) :=
    fun n hn => field_four hn (by omega)
  have hprofiles : c.profiles = (Eight.ofFn fun i =>
      readProfile c.kind ((((bs.drop o).take 121).drop (41 + 10 * i.val)).take 10)) ↔
      ∀ i : Fin 8, c.profiles.get i =
        if c.kind = .chlorine then
          ⟨0, 0, 0, pairAt bs (o + 41 + 10 * i.val + 6), pairAt bs (o + 41 + 10 * i.val + 8)⟩
        else ⟨pairAt bs (o + 41 + 10 * i.val), pairAt bs (o + 41 + 10 * i.val + 2),
          pairAt bs (o + 41 + 10 * i.val + 4), 0, 0⟩ := by
    constructor
    · intro h i
      rw [h, Eight.get_ofFn, readProfile_of_block hlen hk]
    · intro h
      exact Eight.ext_get fun i => by rw [h i, Eight.get_ofFn, readProfile_of_block hlen hk]
  rw [fourOf_eq_some, analyzerOf_eq_some]
  cases c
  simp only [ChannelConfig.SettingsAt, readConfigured, ChannelConfig.mk.injEq, chlorineField, true_and] at hprofiles ⊢
  rw [hprofiles]
  simp only [hone, htwo, hfour, Nat.reduceLeDiff, Nat.reduceAdd]

theorem ChannelConfig.storedAt_of_kind {c : ChannelConfig} {bs : List Byte} {o : Nat} {kind : Kind}
    (h : kindOf (octetAt bs o) = some kind) (hk : kind ≠ .none) :
    c.StoredAt bs o ↔ c.kind = kind ∧ c.SettingsAt bs o := by
  unfold ChannelConfig.StoredAt
  rcases kindOf_eq_some.mp h with ⟨hcode, rfl⟩ | ⟨hcode, rfl⟩ | ⟨hcode, rfl⟩
  · exact absurd rfl hk
  · simp [hcode]
  · simp [hcode]

/-- A block that is read is a channel whose settings stand there; of a NONE block only the kind is read (R166). -/
theorem readChannel_eq_some {c : ChannelConfig} {bs : List Byte} {o : Nat} (hlen : o + 121 ≤ bs.length) :
    readChannel ((bs.drop o).take 121) = some c ↔ c.StoredAt bs o := by
  have hone : ∀ n, n + 1 ≤ 121 → field ((bs.drop o).take 121) n 1 = octetAt bs (o + n) :=
    fun n hn => field_one hn (by omega)
  unfold readChannel
  rw [hone 0 (by decide), hone 1 (by decide), hone 2 (by decide), Nat.add_zero]
  split
  next hkind =>
    have hno : ∀ kind, ¬ kindOf (octetAt bs o) = some kind := fun kind h => by rw [h] at hkind; cases hkind
    simp only [kindOf_eq_some] at hno
    refine ⟨nofun, ?_⟩
    rintro (⟨h, -⟩ | ⟨h, -⟩ | ⟨h, -⟩)
    · exact absurd (.inl ⟨h, rfl⟩) (hno .none)
    · exact absurd (.inr (.inl ⟨h, rfl⟩)) (hno .coagulant)
    · exact absurd (.inr (.inr ⟨h, rfl⟩)) (hno .chlorine)
  next hkind =>
    have hzero : octetAt bs o = 0 := by simpa using kindOf_eq_some.mp hkind
    simp [ChannelConfig.StoredAt, hzero, eq_comm]
  next kind hne hkind =>
    have hk : kind ≠ .none := fun h => hne (h ▸ rfl)
    rw [ChannelConfig.storedAt_of_kind hkind hk]
    split
    next g a hg ha =>
      constructor
      · rintro ⟨⟩
        refine ⟨rfl, (ChannelConfig.settingsAt_iff hlen hk).mpr ⟨hg, ha, rfl⟩⟩
      · rintro ⟨rfl, hset⟩
        obtain ⟨hg', ha', hc⟩ := (ChannelConfig.settingsAt_iff hlen hk).mp hset
        cases hg.symm.trans hg'
        cases ha.symm.trans ha'
        rw [← hc]
    next hg ha =>
      refine ⟨nofun, ?_⟩
      rintro ⟨rfl, hset⟩
      obtain ⟨-, ha', -⟩ := (ChannelConfig.settingsAt_iff hlen hk).mp hset
      cases ha.symm.trans ha'
    next hg =>
      refine ⟨nofun, ?_⟩
      rintro ⟨rfl, hset⟩
      obtain ⟨hg', -⟩ := (ChannelConfig.settingsAt_iff hlen hk).mp hset
      cases hg.symm.trans hg'

/-! ### The whole image -/

theorem crcMatches_iff {bs : List Byte} (hlen : bs.length = 539) :
    crcMatches bs = true ↔ (crc16 (bs.take 537)).toNat = pairAt bs 537 := by
  have hstored : beNat (bs.drop 537) = pairAt bs 537 := by
    rw [← beNat_take_two (by omega), List.take_of_length_le (by rw [List.length_drop]; omega)]
  unfold crcMatches imageLength
  rw [beq_iff_eq, show 539 - 2 = 537 from rfl, hstored, eq_comm]

/-- The image that the check reads is the one whose values stand in the bytes, if it is valid (R166). -/
theorem checkImage_eq_some {bs : List Byte} {im : Image} : checkImage bs = some im ↔
    bs.length = 539 ∧ (crc16 (bs.take 537)).toNat = pairAt bs 537 ∧ im.StoredIn bs ∧ im.InRange := by
  unfold checkImage
  by_cases hlen : bs.length = 539
  swap
  · simp [imageLength, hlen]
  by_cases hcrc : (crc16 (bs.take 537)).toNat = pairAt bs 537
  swap
  · simp [imageLength, hlen, crcMatches_iff hlen, hcrc]
  rw [if_pos ⟨hlen, (crcMatches_iff hlen).mpr hcrc⟩]
  have hread : ∀ (k : Fin 4) (c : ChannelConfig), readChannel ((bs.drop (channelOffset k.val)).take 121) = some c ↔
      c.StoredAt bs (53 + 121 * k.val) := fun k c => by
    have hk := k.isLt
    rw [channelOffset]
    exact readChannel_eq_some (by omega)
  have hstored : im.StoredIn bs ↔ im.station = readStation ((bs.drop 3).take 18) ∧
      (im.groups = Four.ofFn fun g => readGroup ((bs.drop (groupOffset g.val)).take 8)) ∧
      ∀ k : Fin 4, readChannel ((bs.drop (channelOffset k.val)).take 121) = some (im.channel k) := by
    unfold Image.StoredIn
    simp only [hread, StationConfig.storedIn_iff hlen, GroupConfig.stored_iff hlen]
    refine and_congr_right fun _ => and_congr_left fun _ => ?_
    constructor
    · exact fun h => Four.ext_get fun g => by rw [h g, Four.get_ofFn]
    · exact fun h g => by rw [h, Four.get_ofFn]
  rw [hstored, ← Image.valid_iff]
  dsimp only
  constructor
  · intro h
    split at h
    next c0 c1 c2 c3 h0 h1 h2 h3 =>
      split at h
      next hvalid =>
        cases h
        refine ⟨hlen, hcrc, ⟨rfl, rfl, fun k => ?_⟩, hvalid⟩
        match k with
        | 0 => exact h0
        | 1 => exact h1
        | 2 => exact h2
        | 3 => exact h3
      next => cases h
    next => cases h
  · rintro ⟨-, -, ⟨hstation, hgroups, hchannels⟩, hvalid⟩
    have h0 := hchannels 0
    have h1 := hchannels 1
    have h2 := hchannels 2
    have h3 := hchannels 3
    dsimp only [Fin.val_zero, Fin.val_one, Fin.val_two] at h0 h1 h2 h3
    change readChannel ((bs.drop (channelOffset 3)).take 121) = _ at h3
    rw [h0, h1, h2, h3]
    dsimp only
    have him : (⟨readStation ((bs.drop 3).take 18), Four.ofFn fun g => readGroup ((bs.drop (groupOffset g.val)).take 8),
        ⟨im.channel 0, im.channel 1, im.channel 2, im.channel 3⟩⟩ : Image) = im := by
      rw [← hstation, ← hgroups]
      rfl
    rw [him, if_pos hvalid]

theorem crc16_append (bs : List Byte) (b : Byte) : crc16 (bs ++ [b]) = crcByte (crc16 bs) b := by
  simp [crc16, List.foldl_append]

/-! ### The beginning of service -/

theorem lineIndex_val (p0 p1 p2 : Bool) :
    (lineIndex p0 p1 p2).val = (if p0 then 1 else 0) + (if p1 then 2 else 0) + (if p2 then 4 else 0) := by
  cases p0 <;> cases p1 <;> cases p2 <;> rfl

/-- In service FAULT is asserted for a channel that is FAULTED or LOCKED (R128). -/
theorem State.faultLevel_of_service {s : State} (h : s.stn.inService = true) :
    s.faultLevel = true ↔ ∃ k, (s.channel k).state = .faulted ∨ (s.channel k).state = .locked := by
  rw [State.faultLevel_iff, h]
  simp [ChannelState.asserts_iff]

/-- Settles O6: the check of an image agrees with the layout, and the load sets each part of the state from it. -/
theorem aValidImageBeginsService : Obligations.AValidImageBeginsService := by
  refine ⟨fun bs im => checkImage_eq_some, ⟨rfl, fun bs b => crc16_append bs b⟩, ?_⟩
  intro s data im hphase hpart hlen hcheck
  refine ⟨s.enterService im, exec_lastPart hphase hpart hlen hcheck, rfl, rfl, rfl, rfl, rfl, lineIndex_val .., fun a => ?_,
    rfl, ⟨rfl, fun k => Four.get_ofFn _ k, rfl, rfl⟩, rfl, rfl, rfl, rfl, ?_, fun k => ?_⟩
  · exact Eight.get_all _ a
  · exact State.faultLevel_of_service (s := s.enterService im) (by rfl)
  · rw [State.enterService_channel]
    refine ⟨fun hk => ?_, fun hk hhh hro => ?_, fun hk => ?_, fun hk => ?_⟩
    · rw [Channel.loaded_of_none hk]; exact ⟨rfl, rfl, rfl⟩
    · have hfree : ¬ (((s.channel k).sup.loaded (im.channel k) (s.sameKind im k)).highHigh = .active ∨
          ((s.channel k).sup.loaded (im.channel k) (s.sameKind im k)).runOn = .active) := by
        simp only [Supervisor.loaded]
        split <;> split <;> simp [hhh, hro]
      rw [Channel.loaded_of_configured hk, Supervisor.loaded_derive, if_neg hfree]
      exact ⟨rfl, rfl⟩
    · rw [Channel.loaded_of_configured hk, Supervisor.loaded_anyActive]
      exact ⟨rfl, rfl, rfl, rfl, rfl, rfl, rfl, rfl, rfl, rfl, rfl, rfl, rfl, rfl, fun hchlorine => if_pos hchlorine, rfl,
        rfl, rfl, rfl, rfl, rfl, rfl⟩
    · rw [Channel.loaded_of_none hk]; rfl

end Sys2Proof.Machine
end

section
/-! Flow and the selector (Chapters 1 and 2): pulses, samples, the idle flag, the profile-select lines and the adoption of a
settled index. -/

namespace Sys2Proof.Machine

/-! ### What several events on channels leave -/

/-- Events without an ALARM change the channels and the FAULT output alone. -/
theorem State.rederiveAll_eq (s : State) (im : Image) : s.rederiveAll im =
    { s with channels := (s.rederiveAll im).channels, faultOut := (s.rederiveAll im).faultOut } := by
  have hsettles : ∀ (k : Fin 4) (u : State) (c : Channel),
      u.settleChannel im k c none = { u with
        channels := (u.settleChannel im k c none).channels, faultOut := (u.settleChannel im k c none).faultOut } :=
    fun _ _ _ => rfl
  refine State.forChannels_keeps (P := fun u => u = { s with channels := u.channels, faultOut := u.faultOut })
    (fun k u hu => ?_) im.configured rfl
  rw [hsettles]
  exact congrArg (fun x : State => { x with
    channels := (u.settleChannel im k (u.channel k) none).channels
    faultOut := (u.settleChannel im k (u.channel k) none).faultOut }) hu

/-! ### The idle flag -/

theorem anyBecameActive_self (p : Supervisor) : anyBecameActive p p = false := by
  simp [anyBecameActive, becameActive_self]

/-- Without the idle flag no channel is in STANDBY, with it none in DOSING; no other state depends on it (R111). -/
theorem Supervisor.derive_false (p : Supervisor) (idle : Bool) :
    p.derive false = if p.derive idle = .standby then .dosing else p.derive idle := by
  unfold Supervisor.derive
  cases idle <;> split_ifs <;> simp_all

theorem Supervisor.derive_true (p : Supervisor) (idle : Bool) :
    p.derive true = if p.derive idle = .dosing then .standby else p.derive idle := by
  unfold Supervisor.derive
  cases idle <;> split_ifs <;> simp_all

/-- A change of the idle flag alone, on a channel whose state was derived: conditions and record stay, and the channel may
leave DOSING (R8, R30, R95). -/
theorem supervise_self {cc : ChannelConfig} {v : Nat} {c : Channel} {idle : Bool} (h : c.state = c.sup.derive idle)
    (now : Bool) : supervise cc v now c c = { c with
      state := c.sup.derive now
      dose := if c.state = .dosing ∧ c.sup.derive now ≠ .dosing then c.dose.leaveDosing else c.dose
      feeder :=
        { c.feeder with
          ac := if c.state = .dosing ∧ c.sup.derive now ≠ .dosing then 0 else c.feeder.ac
          inh := decide (c.sup.derive now = .locked) } } := by
  have hlockout : lockoutAfter cc v c c (c.sup.derive now) = c.sup.lockout := by
    unfold lockoutAfter
    simp only [becameActive_self, Bool.or_false]
    by_cases hlocked : c.sup.derive now = .locked
    · have hwas : c.state = .locked := by
        rw [h]
        exact Supervisor.derive_eq_locked_iff.mpr (Supervisor.derive_eq_locked_iff.mp hlocked)
      simp [hlocked, hwas]
    · simp [hlocked]
  unfold supervise
  dsimp only
  rw [hlockout, anyBecameActive_self]
  simp [beq_eq_decide, bne]

/-- What clearing the idle flag does to a channel whose state was derived. -/
theorem supervise_idle_cleared {cc : ChannelConfig} {v : Nat} {c : Channel} (h : c.state = c.sup.derive true) :
    supervise cc v false c c = { c with
      state := if c.state = .standby then .dosing else c.state
      feeder := { c.feeder with inh := decide (c.state = .locked) } } := by
  have hnot : c.state ≠ .dosing := by
    rw [h, Supervisor.derive_true _ true]
    split
    · decide
    · assumption
  have hlocked : decide ((if c.state = .standby then .dosing else c.state : ChannelState) = .locked) =
      decide (c.state = .locked) := by
    split_ifs with hs
    · rw [hs]; decide
    · rfl
  rw [supervise_self h, Supervisor.derive_false _ true, ← h, hlocked]
  simp [hnot]

/-- What setting the idle flag does to a channel whose state was derived. -/
theorem supervise_idle_set {cc : ChannelConfig} {v : Nat} {c : Channel} {idle : Bool} (h : c.state = c.sup.derive idle) :
    supervise cc v true c c =
      if c.state = .dosing then { c with
        state := .standby, dose := c.dose.leaveDosing, feeder := { c.feeder with ac := 0, inh := false } }
      else { c with feeder := { c.feeder with inh := decide (c.state = .locked) } } := by
  rw [supervise_self h, Supervisor.derive_true _ idle, ← h]
  by_cases hd : c.state = .dosing <;> simp [hd]

theorem execFlowPulse_of_service {s : State} {im : Image} (hs : s.service = some im) : exec .flowPulse s =
    if s.flow.idle then .next (({ s with flow := s.flow.pulse im.station.idleTime } : State).rederiveAll im)
    else .next { s with flow := s.flow.pulse im.station.idleTime } := by
  show execFlowPulse s = _
  simp only [execFlowPulse, hs]

/-- Settles O10: a pulse and an idle expiry move the flag, and each channel follows it from the state that was derived. -/
theorem pulsesAndTheIdleFlag : Obligations.PulsesAndTheIdleFlag := by
  refine ⟨fun s im hs hidle => ?_, fun s im hs hidle hderived => ?_, fun s im hs hdue hderived => ?_, fun s hnot => ?_⟩
  · rw [execFlowPulse_of_service hs, if_neg (by simp [hidle]), FlowUnit.pulse, ← hidle]
    rfl
  · refine ⟨_, by rw [execFlowPulse_of_service hs, if_pos hidle], ?_, State.rederiveAll_flow _ im, fun k => ?_⟩
    · rw [State.rederiveAll_flow]
      exact State.rederiveAll_eq _ im
    · have hk := hderived im hs k
      rw [hidle] at hk
      rw [State.rederiveAll_channel]
      dsimp only
      by_cases hnone : (im.channel k).kind = .none
      · rw [if_pos hnone, if_neg (by simp [ChannelConfig.configured_iff, hnone])]; rfl
      · have hconf := ChannelConfig.configured_iff.mpr hnone
        rw [if_pos hconf] at hk
        rw [if_neg hnone, if_pos hconf]
        exact supervise_idle_cleared hk
  · have hexec : exec .idleTimerExpiry s = .next (({ s with flow := s.flow.goIdle } : State).rederiveAll im) := by
      show execIdleTimerExpiry s = _
      simp only [execIdleTimerExpiry, hs]
      exact if_pos (Timer.due_iff.mpr hdue)
    refine ⟨_, hexec, ?_, State.rederiveAll_flow _ im, fun k => ?_⟩
    · rw [State.rederiveAll_flow]
      exact State.rederiveAll_eq _ im
    · have hk := hderived im hs k
      rw [State.rederiveAll_channel]
      dsimp only
      by_cases hnone : (im.channel k).kind = .none
      · rw [if_pos hnone, if_neg (by simp [ChannelConfig.configured_iff, hnone])]; rfl
      · have hconf := ChannelConfig.configured_iff.mpr hnone
        rw [if_pos hconf] at hk
        rw [if_neg hnone, if_pos hconf]
        exact supervise_idle_set hk
  · show execIdleTimerExpiry s = _
    unfold execIdleTimerExpiry
    split
    · rfl
    · exact if_neg fun h => hnot (Timer.due_iff.mp h)

/-! ### Samples -/

theorem nextPosition_val (i : Fin 4) : (nextPosition i).val = (i.val + 1) % 4 := by fin_cases i <;> rfl

theorem Image.mem_configured_iff {im : Image} {k : Fin 4} : k ∈ im.configured ↔ (im.channel k).kind ≠ .none :=
  Image.mem_configured.trans ChannelConfig.configured_iff

/-- Work on each configured channel: a channel of kind NONE stays, any other has its work done. -/
theorem State.onConfigured_channel (g : Fin 4 → Channel → Channel) (s : State) (im : Image) (j : Fin 4) :
    (s.forChannels im.configured fun k u => u.onChannel k (g k)).channel j =
      if (im.channel j).kind = .none then s.channel j else g j (s.channel j) := by
  rw [State.forChannels_onChannel g im.configured_nodup s j]
  by_cases hnone : (im.channel j).kind = .none
  · rw [if_neg (fun h => Image.mem_configured_iff.mp h hnone), if_pos hnone]
  · rw [if_pos (Image.mem_configured_iff.mpr hnone), if_neg hnone]

/-- A flow sample that is due. -/
theorem execFlowSample_of_due {s : State} {im : Image} (hs : s.service = some im) (hdue : s.flow.sampleTimer = some 0) :
    exec .flowSample s = .next (({ s with flow := s.flow.sample im.station.litresPerPulse } : State).forChannels
      im.configured fun k u => u.onChannel k fun c =>
        c.addVolume ((s.flow.sample im.station.litresPerPulse).v - s.flow.v)) := by
  show execFlowSample s = _
  simp only [execFlowSample, hs]
  exact if_pos (Timer.due_iff.mpr hdue)

/-- Settles O11: the Flow Unit samples, and each configured channel adds the rise of V. -/
theorem aFlowSampleMovesVAndQ : Obligations.AFlowSampleMovesVAndQ := by
  intro s im hs hdue
  have hframe := State.forChannels_onChannel_eq
    (fun _ c => c.addVolume ((s.flow.sample im.station.litresPerPulse).v - s.flow.v)) im.configured
    { s with flow := s.flow.sample im.station.litresPerPulse }
  refine ⟨_, execFlowSample_of_due hs hdue, ?_⟩
  rw [hframe]
  refine ⟨rfl, rfl, Four.get_set_same _ _ _, fun i hi => Four.get_set_other _ _ hi, nextPosition_val _, rfl, rfl,
    fun k => ?_⟩
  exact State.onConfigured_channel
    (fun _ c => c.addVolume ((s.flow.sample im.station.litresPerPulse).v - s.flow.v)) _ im k

/-- A change moves neither Q nor V nor the ring. -/
theorem Change.sameWater {im : Image} {s t : State} (h : Change im s t) : t.flow.SameWater s.flow := by
  cases h with
  | settle => rw [State.settleChannel_flow]; exact ⟨rfl, rfl, rfl⟩
  | rederive f hwater => rw [State.rederiveAll_flow]; exact hwater
  | flow f _ hwater => exact hwater
  | _ => exact ⟨rfl, rfl, rfl⟩

theorem Event.sameWater {im : Image} {s t : State} (h : Event im s t) : t.flow.SameWater s.flow := by
  induction h with
  | refl => exact ⟨rfl, rfl, rfl⟩
  | tail _ hlast ih =>
    obtain ⟨hq, hv, hr⟩ := hlast.sameWater
    obtain ⟨hq', hv', hr'⟩ := ih
    exact ⟨hq.trans hq', hv.trans hv', hr.trans hr'⟩

/-- A command that is no flow sample keeps Q, V and the ring, or is a reset and empties them (R1). -/
theorem Done.sameWater {s t : State} (hd : Done s t) :
    t.flow.SameWater s.flow ∨ (t.stn = .load ∧ t.flow = FlowUnit.held) := by
  cases hd with
  | pinReset => exact .inr ⟨rfl, rfl⟩
  | restarts => exact .inr ⟨rfl, rfl⟩
  | event _ he => exact .inl he.sameWater
  | ends hs he =>
    rename_i im u
    rcases u.settleRestart_cases with ⟨-, hsame⟩ | ⟨-, -, hbegins⟩ | ⟨-, -, hmark⟩
    · rw [hsame]; exact .inl he.sameWater
    · rw [hbegins]; exact .inr ⟨rfl, rfl⟩
    · rw [hmark]; exact .inl he.sameWater
  | _ => exact .inl ⟨rfl, rfl, rfl⟩

/-- Settles O12: what a command other than a sample can do is known, and none of it moves the water but a reset. -/
theorem onlySamplesMoveTheWater : Obligations.OnlySamplesMoveTheWater := by
  intro s t c hc hexec
  rcases (exec_done hc hexec).sameWater with ⟨hq, hv, hr⟩ | ⟨hstn, hheld⟩
  · exact .inl ⟨hq, hv, hr⟩
  · rw [hheld]
    exact .inr ⟨hstn, rfl, rfl, rfl⟩

/-! ### The selector -/

/-- Settles O13: the index of the lines against the selector's own. -/
theorem aLineChangeSettlesOrNot : Obligations.ALineChangeSettlesOrNot := by
  intro s p0 p1 p2 i hpsel hi
  obtain rfl : i = lineIndex p0 p1 p2 := Fin.ext (hi.trans (lineIndex_val p0 p1 p2).symm)
  have hexec : exec (.lineChange p0 p1 p2) s = execLineChange p0 p1 p2 s := rfl
  have hservice : ({ s with psel := (p0, p1, p2) } : State).service = s.service := rfl
  refine ⟨fun im hs => ⟨fun hne => ?_, fun heq => ?_⟩, fun hs => ?_⟩ <;>
    simp only [hexec, execLineChange, if_neg hpsel, hs]
  · rw [Selector.lineChange, if_neg hne]; rfl
  · rw [Selector.lineChange, if_pos heq]

theorem DoseEngine.formIndex_of_override {d : DoseEngine} {o : Fin 8} (ho : d.profileOverride = some o)
    (hactive : d.activeIndex = o) (cc : ChannelConfig) (i : Fin 8) : d.formIndex cc i = d := by
  simp [DoseEngine.formIndex, ho, hactive]

theorem DoseEngine.formIndex_of_none {d : DoseEngine} (ho : d.profileOverride = none) (cc : ChannelConfig) (i : Fin 8) :
    d.formIndex cc i = if d.activeIndex = i then d else d.adopt cc i := by
  simp [DoseEngine.formIndex, ho, eq_comm]

/-- Settles O14: a channel follows the selector where it has no override. -/
theorem aSettledIndexIsAdopted : Obligations.ASettledIndexIsAdopted := by
  refine ⟨fun s im i hs hcandidate hdue => ?_, fun s hnot => ?_⟩
  · have hexec : exec .settleTimerExpiry s = .next (({ s with selector := ⟨i, none, none⟩ } : State).forChannels
        im.configured fun k u => u.onChannel k (Channel.adoptSelector (im.channel k) i)) := by
      show execSettleTimerExpiry s = _
      simp only [execSettleTimerExpiry, hs, hcandidate]
      exact if_pos (Timer.due_iff.mpr hdue)
    refine ⟨_, hexec, State.forChannels_onChannel_eq (fun k => Channel.adoptSelector (im.channel k) i) _ _, fun k => ?_⟩
    rw [State.onConfigured_channel (fun k => Channel.adoptSelector (im.channel k) i)]
    dsimp only
    refine ⟨fun hnone => if_pos hnone, fun o ho hactive => ?_, fun hk ho hactive => ?_, fun hk ho hactive => ?_⟩
    · split
      · rfl
      · rw [Channel.adoptSelector]
        exact congrArg (fun d => { s.channel k with dose := d }) (DoseEngine.formIndex_of_override ho hactive _ i)
    · rw [if_neg hk, Channel.adoptSelector]
      exact congrArg (fun d => { s.channel k with dose := d })
        ((DoseEngine.formIndex_of_none ho _ i).trans (if_pos hactive))
    · rw [if_neg hk, Channel.adoptSelector]
      refine congrArg (fun d => { s.channel k with dose := d })
        ((DoseEngine.formIndex_of_none ho _ i).trans ((if_neg hactive).trans ?_))
      simp only [DoseEngine.adopt, beq_iff_eq]
      rfl
  · show execSettleTimerExpiry s = _
    unfold execSettleTimerExpiry
    split
    · exact if_neg fun h => hnot (Timer.due_iff.mp h)
    · rfl

end Sys2Proof.Machine
end

section
/-! The dose update (Chapters 2, 3, 5 and 6): the dose, the history, the grant that is asked for, and the credit. -/

namespace Sys2Proof.Machine

/-! ### The update as one change of its channel -/

/-- A dose update that is due: the work on its channel with the grant that the fresh M′ asks for, and the grant record
(R25, R76). Here u is the state with the fresh M′. -/
theorem execDoseUpdate_of_due {s u : State} {im : Image} {k : Fin 4} (hs : s.service = some im)
    (hk : (im.channel k).kind ≠ .none) (hdue : (s.channel k).dose.timer = some 0)
    (hu : u = s.onChannel k (Channel.updateDose (im.channel k) s.flow.q s.flow.v)) :
    ∃ t : State, exec (.doseUpdate k) s = .next t ∧ t = { s with channels := t.channels, share := t.share } ∧
      (∀ j, j ≠ k → t.channel j = s.channel j) ∧
      t.channel k = ((s.channel k).updateDose (im.channel k) s.flow.q s.flow.v).takeGrant (im.channel k) s.flow.q s.flow.v
        (u.channelGrant im k) ∧
      t.share = s.share.set (im.channel k).group
        ⟨u.stationDemand im (im.channel k).group, u.stationGrant im (im.channel k).group⟩ := by
  subst hu
  have hready : ((im.channel k).configured && (s.channel k).dose.timer.due) = true := by
    rw [ChannelConfig.configured_iff.mpr hk, Timer.due_iff.mpr hdue]; rfl
  have hexec : exec (.doseUpdate k) s = execDoseUpdate k s := rfl
  simp only [execDoseUpdate, hs, if_pos hready] at hexec
  dsimp only [State.onChannel_flow, State.recordGrant_flow] at hexec
  rw [State.doseUpdate_eq] at hexec
  exact ⟨_, hexec, rfl, fun j hj => (State.channel_setChannel s k j _).trans (if_neg hj),
    State.channel_setChannel_same s k _, rfl⟩

/-- The channel after a dose update, for the grant that it got. -/
theorem execDoseUpdate_channel {s : State} {im : Image} {k : Fin 4} (hs : s.service = some im)
    (hk : (im.channel k).kind ≠ .none) (hdue : (s.channel k).dose.timer = some 0) :
    ∃ t gch, exec (.doseUpdate k) s = .next t ∧ t.channel k =
      ((s.channel k).updateDose (im.channel k) s.flow.q s.flow.v).takeGrant (im.channel k) s.flow.q s.flow.v gch := by
  obtain ⟨t, hexec, -, -, hchannel, -⟩ := execDoseUpdate_of_due hs hk hdue rfl
  exact ⟨t, _, hexec, hchannel⟩

/-! ### The dose -/

theorem DoseEngine.releaseDue_eq (d : DoseEngine) (v : Nat) : d.releaseDue v = { d with
    pipeline := d.pipeline.dropWhile fun e => decide (e.due ≤ v)
    tdp := match (d.pipeline.takeWhile fun e => decide (e.due ≤ v)).getLast? with
      | some e => some e.turbidity
      | none => d.tdp } := by
  have hdrop : d.pipeline.drop (d.pipeline.takeWhile fun e => decide (e.due ≤ v)).length =
      d.pipeline.dropWhile fun e => decide (e.due ≤ v) := by
    have hsplit := List.takeWhile_append_dropWhile (p := fun e : PipeEntry => decide (e.due ≤ v)) (l := d.pipeline)
    calc d.pipeline.drop _ = (d.pipeline.takeWhile (fun e => decide (e.due ≤ v)) ++ d.pipeline.dropWhile
          (fun e => decide (e.due ≤ v))).drop (d.pipeline.takeWhile fun e => decide (e.due ≤ v)).length := by rw [hsplit]
      _ = _ := List.drop_left
  unfold DoseEngine.releaseDue
  dsimp only
  rw [hdrop]
  cases hlast : (d.pipeline.takeWhile fun e => decide (e.due ≤ v)).getLast? with
  | some e => rfl
  | none =>
    rw [List.getLast?_eq_none_iff] at hlast
    rw [hlast] at hdrop
    rw [← hdrop]
    rfl

theorem Channel.updateDose_dose (cc : ChannelConfig) (q v : Nat) (c : Channel) : (c.updateDose cc q v).dose =
    { ((c.dose.bringUp cc v).computeDose cc).computeDemand cc q c.state with timer := startMs 1000 } := rfl

/-- Settles O15: the release, the dose from the released turbidity, and the demand from Q, each by its equation. -/
theorem aCoagulantDoseFollowsTheWater : Obligations.ACoagulantDoseFollowsTheWater := by
  intro s im k hs hkind hdue
  have hk : (im.channel k).kind ≠ .none := by simp [hkind]
  obtain ⟨t, gch, hexec, hchannel⟩ := execDoseUpdate_channel hs hk hdue
  refine ⟨t, hexec, ?_⟩
  have hdose : (t.channel k).dose = { (((s.channel k).dose.releaseDue s.flow.v).computeDose (im.channel k)).computeDemand
      (im.channel k) s.flow.q (s.channel k).state with timer := some 1000, gch := gch } := by
    rw [hchannel, Channel.takeGrant_dose, DoseEngine.recordDelivered, if_neg (by simp [hkind]),
      Channel.updateDose_dose, DoseEngine.bringUp, hkind]
    rfl
  rw [hdose, DoseEngine.computeDemand_changes, DoseEngine.releaseDue_eq, DoseEngine.computeDose, hkind]
  exact ⟨rfl, rfl, rfl, rfl, rfl⟩

/-! ### The history -/

/-- Pruning takes entries from the front while the next one's mark lies at or below V less the lag volume (R50). -/
theorem pruneHistory_spec (v lag : Nat) (h : List HistEntry) : ∃ gone,
    h = gone ++ pruneHistory v lag h ∧ (h ≠ [] → pruneHistory v lag h ≠ []) ∧
    (∀ a b rest, pruneHistory v lag h = a :: b :: rest → ¬ (lag ≤ v ∧ b.mark ≤ v - lag)) ∧
    (gone ≠ [] → ∃ a rest, pruneHistory v lag h = a :: rest ∧ lag ≤ v ∧ a.mark ≤ v - lag) := by
  induction h with
  | nil => exact ⟨[], rfl, fun h => absurd rfl h, nofun, fun h => absurd rfl h⟩
  | cons a t ih =>
    cases t with
    | nil => exact ⟨[], rfl, fun _ => nofun, nofun, fun h => absurd rfl h⟩
    | cons b rest =>
      unfold pruneHistory
      split
      next hdue =>
        obtain ⟨gone, hsplit, hsome, hstays, hleft⟩ := ih
        refine ⟨a :: gone, by rw [List.cons_append, ← hsplit], fun _ => hsome nofun, hstays, fun _ => ?_⟩
        cases gone with
        | nil =>
          rw [List.nil_append] at hsplit
          exact ⟨b, rest, hsplit.symm, hdue⟩
        | cons => exact hleft nofun
      next hnot =>
        refine ⟨[], rfl, fun _ => nofun, fun x y r hxy => ?_, fun h => absurd rfl h⟩
        cases hxy
        exact hnot

theorem enterDose_nil (v dd step : Nat) : enterDose v dd step [] = [⟨v, dd, false⟩] := rfl

/-- The four ways in which a delivered dose enters a history that holds one (R49). -/
theorem enterDose_concat (v dd step : Nat) (older : List HistEntry) (newest : HistEntry) :
    enterDose v dd step (older ++ [newest]) =
      if dd + step ≤ newest.dose ∨ newest.dose + step ≤ dd then
        if v = newest.mark then older ++ [{ newest with dose := dd }]
        else if (older ++ [newest]).length < 8 then older ++ [newest] ++ [⟨v, dd, false⟩]
        else older ++ [{ newest with dose := dd, merged := true }]
      else older ++ [newest] := by
  have hapart : absDiff dd newest.dose < step ↔ ¬ (dd + step ≤ newest.dose ∨ newest.dose + step ≤ dd) := by
    unfold absDiff
    omega
  unfold enterDose historyCapacity
  rw [List.getLast?_concat, List.dropLast_concat]
  dsimp only
  rw [if_congr hapart rfl rfl, ite_not]

/-- Settles O16: the estimate within Cw gives the dose; the pruned history takes the delivered dose in one of its ways. -/
theorem aChlorineDoseFollowsTheEstimate : Obligations.AChlorineDoseFollowsTheEstimate := by
  intro s im k hs hkind hdue
  have hk : (im.channel k).kind ≠ .none := by simp [hkind]
  obtain ⟨t, gch, hexec, hchannel⟩ := execDoseUpdate_channel hs hk hdue
  refine ⟨t, hexec, ?_⟩
  obtain ⟨h, hh⟩ : ∃ h, h = pruneHistory s.flow.v (im.channel k).volume (s.channel k).dose.history := ⟨_, rfl⟩
  obtain ⟨gone, hsplit, hsome, hstays, hleft⟩ :=
    pruneHistory_spec s.flow.v (im.channel k).volume (s.channel k).dose.history
  rw [← hh] at hsplit hsome hstays hleft
  have hdose : (t.channel k).dose = { (((s.channel k).dose.bringUp (im.channel k) s.flow.v).computeDose
      (im.channel k)).computeDemand (im.channel k) s.flow.q (s.channel k).state with
      timer := some 1000, gch := gch
      history := if 0 < s.flow.q then enterDose s.flow.v (gch * 100 / s.flow.q) (im.channel k).historyStep h else h } := by
    have hhistory : ((s.channel k).updateDose (im.channel k) s.flow.q s.flow.v).dose.history = h := by
      rw [Channel.updateDose_history, DoseEngine.bringUp, hkind, hh]
    rw [hchannel, Channel.takeGrant_dose, DoseEngine.recordDelivered]
    by_cases hq : 0 < s.flow.q
    · rw [if_pos ⟨hkind, hq⟩, if_pos hq, ← hhistory]; rfl
    · rw [if_neg fun hboth => hq hboth.2, if_neg hq, ← hhistory]; rfl
  rw [hdose, DoseEngine.computeDemand_changes, DoseEngine.bringUp, DoseEngine.computeDose, hkind]
  refine ⟨rfl, rfl, rfl, gone, h, hsplit, hsome, hstays, hleft, fun hq => if_neg (by omega), fun hq hnil => ?_,
    fun hq older newest hconcat => ?_⟩
  · dsimp only
    rw [if_pos hq, hnil, enterDose_nil]
  · dsimp only
    rw [if_pos hq, hconcat, enterDose_concat]
    refine ⟨fun hnot => if_neg hnot, fun hapart hv => ?_, fun hapart hv hroom => ?_, fun hapart hv hfull => ?_⟩
    · rw [if_pos hapart, if_pos hv]
    · rw [if_pos hapart, if_neg hv, if_pos hroom]
    · rw [if_pos hapart, if_neg hv, if_neg (by omega)]

/-! ### The grant -/

theorem Channel.takeGrant_gch (cc : ChannelConfig) (q v gch : Nat) (c : Channel) :
    (c.takeGrant cc q v gch).dose.gch = gch := by
  rw [Channel.takeGrant_dose, DoseEngine.recordDelivered_changes]

theorem Channel.takeGrant_mCap (cc : ChannelConfig) (q v gch : Nat) (c : Channel) :
    (c.takeGrant cc q v gch).dose.mCap = c.dose.mCap := by
  rw [Channel.takeGrant_dose, DoseEngine.recordDelivered_changes]

theorem Channel.takeGrant_m (cc : ChannelConfig) (q v gch : Nat) (c : Channel) :
    (c.takeGrant cc q v gch).dose.m = c.dose.m := by
  rw [Channel.takeGrant_dose, DoseEngine.recordDelivered_changes]

theorem Channel.takeGrant_feedLimit (cc : ChannelConfig) (q v gch : Nat) (c : Channel) :
    (c.takeGrant cc q v gch).dose.feedLimit = c.dose.feedLimit := by
  rw [Channel.takeGrant_dose, DoseEngine.recordDelivered_changes]

/-- M′ and FEED LIMIT of a dose update from its M (R29). -/
theorem Channel.updateDose_demand (cc : ChannelConfig) (q v : Nat) (c : Channel) :
    (c.updateDose cc q v).dose.mCap =
        (if c.state = .dosing then min (c.updateDose cc q v).dose.m cc.feederCapacity else 0) ∧
      ((c.updateDose cc q v).dose.feedLimit = true ↔
        c.state = .dosing ∧ cc.feederCapacity < (c.updateDose cc q v).dose.m) := by
  rw [Channel.updateDose_dose]
  unfold DoseEngine.computeDemand
  dsimp only
  split
  next h => simp [h]
  next h => simp [h]

theorem State.stationDemand_congr {s t : State} (im : Image) (g : Fin 4)
    (h : ∀ j, (t.channel j).dose.mCap = (s.channel j).dose.mCap) : t.stationDemand im g = s.stationDemand im g := by
  unfold State.stationDemand
  simp only [h]

/-- The effective capacity: the least of the occupied slots, else the fallback (R72). -/
theorem State.capacityOf_eq (s : State) (im : Image) (g : Fin 4) :
    s.capacityOf im g = match (s.peer.capacity.get g).slot0, (s.peer.capacity.get g).slot1 with
      | none, none => (im.groups.get g).fallback
      | some x, none => x.capacity
      | none, some y => y.capacity
      | some x, some y => min x.capacity y.capacity := by
  unfold State.capacityOf GroupSlots.effective GroupSlots.capacities
  cases (s.peer.capacity.get g).slot0 <;> cases (s.peer.capacity.get g).slot1 <;> rfl

theorem PeerView.mem_participants {p : PeerView} {g : Fin 4} {x : Participant} :
    x ∈ p.participants g ↔ ∃ e ∈ p.table, 0 < e.demand.get g ∧ x = ⟨e.number, e.weight, e.demand.get g⟩ := by
  simp [PeerView.participants, and_assoc, eq_comm]

/-- Settles O17: the fresh M′ enters the station demand, the grant is the reserve's or the water-fill's, and the channel
gets its share. -/
theorem aDoseUpdateAsksForAGrant : Obligations.ADoseUpdateAsksForAGrant := by
  intro s im k hs hk hdue
  obtain ⟨u, hu⟩ : ∃ u, u = s.onChannel k (Channel.updateDose (im.channel k) s.flow.q s.flow.v) := ⟨_, rfl⟩
  obtain ⟨t, hexec, hframe, hothers, hchannel, hshare⟩ := execDoseUpdate_of_due hs hk hdue hu
  refine ⟨t, hexec, hframe, hothers, ?_⟩
  have huk : u.channel k = (s.channel k).updateDose (im.channel k) s.flow.q s.flow.v := by
    rw [hu, State.channel_onChannel_same]
  have hdemand : u.stationDemand im (im.channel k).group = t.stationDemand im (im.channel k).group := by
    refine State.stationDemand_congr im _ fun j => ?_
    by_cases hj : j = k
    · subst hj
      rw [huk, hchannel, Channel.takeGrant_mCap]
    · rw [hothers j hj, hu, State.channel_onChannel, if_neg hj]
  obtain ⟨hcap, hlimit⟩ := (s.channel k).updateDose_demand (im.channel k) s.flow.q s.flow.v
  have hrecord : t.share.get (im.channel k).group =
      ⟨u.stationDemand im (im.channel k).group, u.stationGrant im (im.channel k).group⟩ := by
    rw [hshare, Four.get_set_same]
  dsimp only
  rw [hrecord, hchannel]
  refine ⟨fun g hg => by rw [hshare, Four.get_set_other _ _ hg], by simp, by simp, ?_, ?_, hdemand, fun hstn => ?_,
    fun hstn => ?_, ?_, fun g => ⟨s.capacityOf_eq im g, fun p => PeerView.mem_participants⟩⟩
  · rw [Channel.takeGrant_mCap, Channel.takeGrant_m]; exact hcap
  · rw [Channel.takeGrant_feedLimit, Channel.takeGrant_m]; exact hlimit
  · subst hu; exact if_neg hstn
  · subst hu; exact if_pos hstn
  · rw [Channel.takeGrant_gch, Channel.takeGrant_mCap, State.channelGrant, huk]; rfl

/-! ### The credit -/

theorem Channel.mayStroke_iff {cc : ChannelConfig} {c : Channel} : c.mayStroke cc = true ↔
    c.state = .dosing ∧ cc.strokeMass ≤ c.feeder.ac ∧ c.feeder.timer = none ∧ c.feeder.strokes.length < 8 := by
  simp only [Channel.mayStroke, Bool.and_eq_true, beq_iff_eq, decide_eq_true_eq, Option.isNone_iff_eq_none, and_assoc]
  rfl

theorem Channel.issueTest_of_passes {cc : ChannelConfig} {c : Channel} (h : c.mayStroke cc = true) :
    c.issueTest cc = c.stroke cc := if_pos h

theorem Channel.issueTest_of_fails {cc : ChannelConfig} {c : Channel} (h : ¬ c.mayStroke cc = true) :
    c.issueTest cc = c := if_neg h

/-- The feeder and the interval after the grant of one second, by the issue test on the filled credit (R94, R96). -/
theorem Channel.takeGrant_of_passes {cc : ChannelConfig} {c : Channel} (q v gch : Nat)
    (h : (c.credit cc gch).mayStroke cc = true) :
    (c.takeGrant cc q v gch).feeder = ((c.credit cc gch).stroke cc).feeder ∧
      (c.takeGrant cc q v gch).iv = ((c.credit cc gch).stroke cc).iv.handOver (c.takeGrant cc q v gch).dose := by
  unfold Channel.takeGrant
  dsimp only
  rw [Channel.issueTest_of_passes (c := ({ c with dose := { c.dose with gch := gch } } : Channel).credit cc gch) h]
  exact ⟨rfl, rfl⟩

theorem Channel.takeGrant_of_fails {cc : ChannelConfig} {c : Channel} (q v gch : Nat)
    (h : ¬ (c.credit cc gch).mayStroke cc = true) :
    (c.takeGrant cc q v gch).feeder = (c.credit cc gch).feeder ∧
      (c.takeGrant cc q v gch).iv = (c.credit cc gch).iv.handOver (c.takeGrant cc q v gch).dose := by
  unfold Channel.takeGrant
  dsimp only
  rw [Channel.issueTest_of_fails (c := ({ c with dose := { c.dose with gch := gch } } : Channel).credit cc gch) h]
  exact ⟨rfl, rfl⟩

/-- Settles O18: the credit, the issue test on it, and the figures handed over. -/
theorem aDoseUpdateFillsTheCredit : Obligations.ADoseUpdateFillsTheCredit := by
  intro s im k hs hk hdue
  obtain ⟨t, gch, hexec, hchannel⟩ := execDoseUpdate_channel hs hk hdue
  refine ⟨t, hexec, ?_⟩
  have hgch : (t.channel k).dose.gch = gch := by rw [hchannel, Channel.takeGrant_gch]
  obtain ⟨c, hc⟩ : ∃ c, c = (s.channel k).updateDose (im.channel k) s.flow.q s.flow.v := ⟨_, rfl⟩
  have hpasses : (c.credit (im.channel k) gch).mayStroke (im.channel k) = true ↔
      (s.channel k).state = .dosing ∧
        (im.channel k).strokeMass ≤ min (4 * (im.channel k).strokeMass) ((s.channel k).feeder.ac + gch) ∧
        (s.channel k).feeder.timer = none ∧ (s.channel k).feeder.strokes.length < 8 := by
    rw [Channel.mayStroke_iff, hc]; rfl
  dsimp only
  rw [hgch, ← hpasses]
  rw [← hc] at hchannel
  by_cases hp : (c.credit (im.channel k) gch).mayStroke (im.channel k) = true
  · obtain ⟨hfeeder, hiv⟩ := Channel.takeGrant_of_passes s.flow.q s.flow.v gch hp
    rw [← hchannel] at hfeeder hiv
    rw [hfeeder, hiv, Interval.handOver, hgch]
    subst hc
    exact ⟨fun _ => ⟨rfl, rfl⟩, fun hnot => absurd hp hnot, rfl⟩
  · obtain ⟨hfeeder, hiv⟩ := Channel.takeGrant_of_fails s.flow.q s.flow.v gch hp
    rw [← hchannel] at hfeeder hiv
    rw [hfeeder, hiv, Interval.handOver, hgch]
    subst hc
    exact ⟨fun hyes => absurd hyes hp, fun _ => ⟨rfl, rfl⟩, rfl⟩

end Sys2Proof.Machine
end

section
/-! Apportioning (Chapter 5): the order of the participants is that of a key, and the walk over them is fair. -/

namespace Sys2Proof.Machine

/-! ### The order -/

/-- What the participants are ordered by: the demand per unit of weight, then the station number (R82). -/
def Participant.key (p : Participant) : Lex (ℚ × ℕ) := toLex ((p.demand : ℚ) / p.weight, p.number)

theorem Participant.demand_le_iff {a b : Participant} (ha : 1 ≤ a.weight) (hb : 1 ≤ b.weight) :
    (a.demand : ℚ) / a.weight ≤ (b.demand : ℚ) / b.weight ↔ a.demand * b.weight ≤ b.demand * a.weight := by
  have ha' : (0 : ℚ) < a.weight := by exact_mod_cast ha
  have hb' : (0 : ℚ) < b.weight := by exact_mod_cast hb
  rw [div_le_div_iff₀ ha' hb']
  norm_cast

/-- The cross products compare the keys. -/
theorem Participant.key_lt_iff {a b : Participant} (ha : 1 ≤ a.weight) (hb : 1 ≤ b.weight) :
    a.key < b.key ↔ a.demand * b.weight < b.demand * a.weight ∨
      (a.demand * b.weight = b.demand * a.weight ∧ a.number < b.number) := by
  have hlt : (a.demand : ℚ) / a.weight < (b.demand : ℚ) / b.weight ↔ a.demand * b.weight < b.demand * a.weight := by
    rw [← not_le, Participant.demand_le_iff hb ha, not_le]
  have heq : (a.demand : ℚ) / a.weight = (b.demand : ℚ) / b.weight ↔ a.demand * b.weight = b.demand * a.weight := by
    rw [le_antisymm_iff, Participant.demand_le_iff ha hb, Participant.demand_le_iff hb ha, ← le_antisymm_iff]
  rw [Participant.key, Participant.key, Prod.Lex.toLex_lt_toLex, hlt, heq]

theorem Participant.before_iff {a b : Participant} (ha : 1 ≤ a.weight) (hb : 1 ≤ b.weight) :
    a.before b = true ↔ a.key < b.key := by
  rw [Participant.key_lt_iff ha hb]
  simp [Participant.before]

/-- Equal keys are those of one number. -/
theorem Participant.number_eq_of_key_eq {a b : Participant} (h : a.key = b.key) : a.number = b.number :=
  congrArg (fun x => (ofLex x).2) h

theorem insertParticipant_sorted {p : Participant} {ps : List Participant} (hp : 1 ≤ p.weight)
    (hw : ∀ q ∈ ps, 1 ≤ q.weight) (h : ps.Pairwise fun a b => a.key ≤ b.key) :
    (insertParticipant p ps).Pairwise fun a b => a.key ≤ b.key := by
  induction ps with
  | nil => simp [insertParticipant]
  | cons q qs ih =>
    obtain ⟨hq, hqs⟩ := List.pairwise_cons.mp h
    have hwq := hw q List.mem_cons_self
    unfold insertParticipant
    split
    next hbefore =>
      have hlt := (Participant.before_iff hp hwq).mp hbefore
      refine List.pairwise_cons.mpr ⟨fun x hx => ?_, h⟩
      rcases List.mem_cons.mp hx with rfl | hx
      · exact hlt.le
      · exact hlt.le.trans (hq x hx)
    next hnot =>
      rw [Participant.before_iff hp hwq, not_lt] at hnot
      refine List.pairwise_cons.mpr ⟨fun x hx => ?_, ih (fun r hr => hw r (List.mem_cons_of_mem _ hr)) hqs⟩
      rcases List.mem_cons.mp ((insertParticipant_perm p qs).mem_iff.mp hx) with rfl | hx
      · exact hnot
      · exact hq x hx

theorem orderParticipants_sorted {ps : List Participant} (hw : ∀ p ∈ ps, 1 ≤ p.weight) :
    (orderParticipants ps).Pairwise fun a b => a.key ≤ b.key := by
  induction ps with
  | nil => exact .nil
  | cons p ps ih =>
    have hrest : ∀ q ∈ ps, 1 ≤ q.weight := fun q hq => hw q (List.mem_cons_of_mem _ hq)
    exact insertParticipant_sorted (hw p List.mem_cons_self)
      (fun q hq => hrest q ((orderParticipants_perm ps).mem_iff.mp hq)) (ih hrest)

/-- With different numbers the order is strict. -/
theorem orderParticipants_strict {ps : List Participant} (hw : ∀ p ∈ ps, 1 ≤ p.weight)
    (hn : (ps.map Participant.number).Nodup) : (orderParticipants ps).Pairwise fun a b => a.key < b.key := by
  have hnumbers : (orderParticipants ps).Pairwise fun a b => a.number ≠ b.number :=
    List.pairwise_map.mp (((orderParticipants_perm ps).map Participant.number).nodup_iff.mpr hn)
  exact ((orderParticipants_sorted hw).and hnumbers).imp fun ⟨hle, hne⟩ =>
    lt_of_le_of_ne hle fun heq => hne (Participant.number_eq_of_key_eq heq)

/-- Settles O21: a list ordered strictly by the key is the only arrangement of its participants that is. -/
theorem theOrderIsTheSameEverywhere : Obligations.TheOrderIsTheSameEverywhere := by
  intro ps qs hw hn
  have hweights : ∀ p ∈ orderParticipants ps, 1 ≤ p.weight :=
    fun p hp => hw p ((orderParticipants_perm ps).mem_iff.mp hp)
  refine ⟨orderParticipants_perm ps, ?_, fun hperm => ?_⟩
  · exact (orderParticipants_strict hw hn).imp_of_mem fun ha hb hlt =>
      (Participant.key_lt_iff (hweights _ ha) (hweights _ hb)).mp hlt
  · have hqs := orderParticipants_strict (fun q hq => hw q (hperm.mem_iff.mpr hq))
      ((hperm.map Participant.number).nodup_iff.mp hn)
    exact List.Perm.eq_of_pairwise (fun a b _ _ hab hba => absurd (hab.trans hba) (lt_irrefl _))
      (orderParticipants_strict hw hn) hqs
      ((orderParticipants_perm ps).trans (hperm.trans (orderParticipants_perm qs).symm))

/-! ### The walk -/

/-- The walk over participants of some weights in all: a run that each gets its demand, which lies within its fair share of
what the ones before it have left, then a rest that shares what is left there; what is left per unit of weight never
falls (R83). -/
structure WalkOf (remaining weights : Nat) (ps satisfied rest : List Participant) : Prop where
  split : ps = satisfied ++ rest
  grants : walk remaining weights ps = satisfied.map (fun p => (p.number, p.demand)) ++
    rest.map fun p => (p.number,
      fairShare (remaining - totalDemand satisfied) p.weight (weights - totalWeight satisfied))
  served : ∀ pre p post, satisfied = pre ++ p :: post →
    p.demand ≤ fairShare (remaining - totalDemand pre) p.weight (weights - totalWeight pre)
  stops : ∀ p post, rest = p :: post →
    fairShare (remaining - totalDemand satisfied) p.weight (weights - totalWeight satisfied) < p.demand
  covered : totalDemand satisfied ≤ remaining
  kept : remaining * (weights - totalWeight satisfied) ≤ (remaining - totalDemand satisfied) * weights

/-- Serving a demand within its fair share leaves no less per unit of weight. -/
theorem kept_of_served {remaining weights demand weight a left : Nat} (hp : demand ≤ fairShare remaining weight weights)
    (hw : weight ≤ weights) (ha : a ≤ weights - weight) (h : (remaining - demand) * a ≤ left * (weights - weight)) :
    remaining * a ≤ left * weights := by
  have hserved : demand * weights ≤ remaining * weight :=
    (Nat.mul_le_mul_right weights hp).trans (Nat.div_mul_le_self _ _)
  have hle : demand ≤ remaining := hp.trans (fairShare_le remaining hw)
  obtain ⟨r, rfl⟩ := Nat.exists_eq_add_of_le hle
  obtain ⟨w, rfl⟩ := Nat.exists_eq_add_of_le hw
  rw [Nat.add_sub_cancel_left] at ha h
  rw [Nat.add_sub_cancel_left] at h
  have hper : (demand + r) * w ≤ r * (weight + w) := by nlinarith
  rcases Nat.eq_zero_or_pos w with rfl | hpos
  · obtain rfl : a = 0 := Nat.le_zero.mp ha
    exact Nat.zero_le _
  · refine Nat.le_of_mul_le_mul_right ?_ hpos
    calc (demand + r) * a * w = (demand + r) * w * a := by ring
      _ ≤ r * (weight + w) * a := Nat.mul_le_mul_right a hper
      _ = r * a * (weight + w) := by ring
      _ ≤ left * w * (weight + w) := Nat.mul_le_mul_right _ h
      _ = left * (weight + w) * w := by ring

theorem WalkOf.nil (remaining weights : Nat) : WalkOf remaining weights [] [] [] where
  split := rfl
  grants := rfl
  served := by simp
  stops := by simp
  covered := Nat.zero_le _
  kept := le_rfl

/-- The walk stops at a participant whose demand exceeds its fair share. -/
theorem WalkOf.stop {remaining weights : Nat} {p : Participant} {ps : List Participant}
    (h : ¬ p.demand ≤ fairShare remaining p.weight weights) : WalkOf remaining weights (p :: ps) [] (p :: ps) where
  split := rfl
  grants := if_neg h
  served := by simp
  stops := by
    rintro q post ⟨⟩
    exact Nat.lt_of_not_le h
  covered := Nat.zero_le _
  kept := le_rfl

/-- A participant within its fair share gets its demand, and the walk goes on with what is left. -/
theorem WalkOf.serve {remaining weights : Nat} {p : Participant} {ps satisfied rest : List Participant}
    (hp : p.demand ≤ fairShare remaining p.weight weights) (hw : p.weight ≤ weights)
    (h : WalkOf (remaining - p.demand) (weights - p.weight) ps satisfied rest) :
    WalkOf remaining weights (p :: ps) (p :: satisfied) rest where
  split := congrArg (List.cons p) h.split
  grants := by
    rw [walk, if_pos hp, h.grants, totalDemand_cons, totalWeight_cons, Nat.sub_sub, Nat.sub_sub]
    rfl
  served := by
    intro pre q post hsplit
    cases pre with
    | nil =>
      cases hsplit
      exact hp
    | cons x pre =>
      obtain ⟨rfl, hsatisfied⟩ := List.cons.inj hsplit
      rw [totalDemand_cons, totalWeight_cons, ← Nat.sub_sub, ← Nat.sub_sub]
      exact h.served pre q post hsatisfied
  stops := by
    rw [totalDemand_cons, totalWeight_cons, ← Nat.sub_sub, ← Nat.sub_sub]
    exact h.stops
  covered := by
    have hle : p.demand ≤ remaining := hp.trans (fairShare_le remaining hw)
    have := h.covered
    rw [totalDemand_cons]
    omega
  kept := by
    have hkept := h.kept
    rw [totalDemand_cons, totalWeight_cons, ← Nat.sub_sub, ← Nat.sub_sub]
    have ha : weights - p.weight - totalWeight satisfied ≤ weights - p.weight := Nat.sub_le _ _
    exact kept_of_served hp hw ha hkept

theorem exists_walkOf {ps : List Participant} {remaining weights : Nat} (hw : totalWeight ps ≤ weights) :
    ∃ satisfied rest, WalkOf remaining weights ps satisfied rest := by
  induction ps generalizing remaining weights with
  | nil => exact ⟨[], [], .nil _ _⟩
  | cons p ps ih =>
    rw [totalWeight_cons] at hw
    by_cases hp : p.demand ≤ fairShare remaining p.weight weights
    · obtain ⟨satisfied, rest, h⟩ := ih (remaining := remaining - p.demand) (weights := weights - p.weight) (by omega)
      exact ⟨p :: satisfied, rest, h.serve hp (by omega)⟩
    · exact ⟨[], p :: ps, .stop hp⟩

theorem totalWeight_append (ps qs : List Participant) : totalWeight (ps ++ qs) = totalWeight ps + totalWeight qs := by
  simp [totalWeight]

theorem totalDemand_orderParticipants (ps : List Participant) :
    totalDemand (orderParticipants ps) = totalDemand ps :=
  ((orderParticipants_perm ps).map Participant.demand).sum_eq

/-! ### What the grants come to -/

section Grants

variable {remaining : Nat} {ps satisfied rest : List Participant}

theorem WalkOf.weights_left (h : WalkOf remaining (totalWeight ps) ps satisfied rest) :
    totalWeight ps - totalWeight satisfied = totalWeight rest := by
  rw [h.split, totalWeight_append, Nat.add_sub_cancel_left]

/-- The grants sum to at most what there was (R84). -/
theorem WalkOf.sum_le (h : WalkOf remaining (totalWeight ps) ps satisfied rest) :
    ((walk remaining (totalWeight ps) ps).map Prod.snd).sum ≤ remaining := by
  have hserved : (satisfied.map fun p => p.demand).sum = totalDemand satisfied := rfl
  have hrest : (rest.map fun p => fairShare (remaining - totalDemand satisfied) p.weight (totalWeight rest)).sum ≤
      remaining - totalDemand satisfied := by
    have hparts := sum_map_mul_div_le (remaining - totalDemand satisfied) (totalWeight rest) (rest.map Participant.weight)
    rw [List.map_map] at hparts
    exact hparts.trans (mul_div_le_of_le _ le_rfl)
  rw [h.grants, h.weights_left, List.map_append, List.map_map, List.map_map, List.sum_append]
  exact (Nat.add_le_add (le_of_eq hserved) hrest).trans (by have := h.covered; omega)

theorem WalkOf.numbers (h : WalkOf remaining (totalWeight ps) ps satisfied rest) :
    (walk remaining (totalWeight ps) ps).map Prod.fst = ps.map Participant.number := by
  rw [h.grants, h.split, List.map_append, List.map_append, List.map_map, List.map_map]
  rfl

/-- Behind the participant at which the walk stops every demand exceeds its fair share, for the order compares demands per
unit of weight. -/
theorem WalkOf.rest_le (h : WalkOf remaining (totalWeight ps) ps satisfied rest) (hw : ∀ p ∈ ps, 1 ≤ p.weight)
    (hsorted : ps.Pairwise fun a b => a.demand * b.weight ≤ b.demand * a.weight) {p : Participant} (hp : p ∈ rest) :
    fairShare (remaining - totalDemand satisfied) p.weight (totalWeight rest) ≤ p.demand := by
  rw [h.split] at hsorted
  obtain ⟨-, hsorted, -⟩ := List.pairwise_append.mp hsorted
  cases hrest : rest with
  | nil => rw [hrest] at hp; cases hp
  | cons q post =>
    have hstop := h.stops q post hrest
    rw [h.weights_left, hrest] at hstop
    rw [hrest] at hp hsorted
    rcases List.mem_cons.mp hp with rfl | hp'
    · exact hstop.le
    · have hqp := (List.pairwise_cons.mp hsorted).1 p hp'
      have hq : 1 ≤ q.weight := hw q (by rw [h.split, hrest]; simp)
      have hall : 0 < totalWeight (q :: post) := by rw [totalWeight_cons]; omega
      refine Nat.div_le_of_le_mul (Nat.le_of_mul_le_mul_right ?_ hq)
      have hq' : (remaining - totalDemand satisfied) * q.weight ≤ q.demand * totalWeight (q :: post) :=
        ((Nat.div_lt_iff_lt_mul hall).mp hstop).le
      calc (remaining - totalDemand satisfied) * p.weight * q.weight
          = (remaining - totalDemand satisfied) * q.weight * p.weight := by ring
        _ ≤ q.demand * totalWeight (q :: post) * p.weight := Nat.mul_le_mul_right _ hq'
        _ = q.demand * p.weight * totalWeight (q :: post) := by ring
        _ ≤ p.demand * q.weight * totalWeight (q :: post) := Nat.mul_le_mul_right _ hqp
        _ = totalWeight (q :: post) * p.demand * q.weight := by ring

/-- What is shared in the end is no less, by weight, than the whole was (R83). -/
theorem WalkOf.fair_le (h : WalkOf remaining (totalWeight ps) ps satisfied rest) (hw : ∀ p ∈ ps, 1 ≤ p.weight)
    {p : Participant} (hp : p ∈ rest) : remaining * p.weight / totalWeight ps ≤
      fairShare (remaining - totalDemand satisfied) p.weight (totalWeight rest) := by
  have hweight : 1 ≤ p.weight := hw p (by rw [h.split]; exact List.mem_append_right _ hp)
  have hrest : 0 < totalWeight rest := lt_of_lt_of_le hweight (weight_le_totalWeight hp)
  have hall : 0 < totalWeight ps := by rw [h.split, totalWeight_append]; omega
  have hkept := h.kept
  rw [h.weights_left] at hkept
  refine (Nat.le_div_iff_mul_le hrest).mpr (Nat.le_of_mul_le_mul_right ?_ hall)
  calc remaining * p.weight / totalWeight ps * totalWeight rest * totalWeight ps
      = remaining * p.weight / totalWeight ps * totalWeight ps * totalWeight rest := by ring
    _ ≤ remaining * p.weight * totalWeight rest := Nat.mul_le_mul_right _ (Nat.div_mul_le_self _ _)
    _ = remaining * totalWeight rest * p.weight := by ring
    _ ≤ (remaining - totalDemand satisfied) * totalWeight ps * p.weight := Nat.mul_le_mul_right _ hkept
    _ = (remaining - totalDemand satisfied) * p.weight * totalWeight ps := by ring

/-- Each participant gets at most its demand, and at least that or its part by weight of the whole (R83). -/
theorem WalkOf.grant (h : WalkOf remaining (totalWeight ps) ps satisfied rest) (hw : ∀ p ∈ ps, 1 ≤ p.weight)
    (hsorted : ps.Pairwise fun a b => a.demand * b.weight ≤ b.demand * a.weight) {p : Participant} (hp : p ∈ ps) :
    ∃ grant, (p.number, grant) ∈ walk remaining (totalWeight ps) ps ∧ grant ≤ p.demand ∧
      min p.demand (remaining * p.weight / totalWeight ps) ≤ grant := by
  rw [h.grants]
  rw [h.split] at hp
  rcases List.mem_append.mp hp with hp | hp
  · exact ⟨p.demand, List.mem_append_left _ (List.mem_map.mpr ⟨p, hp, rfl⟩), le_rfl, min_le_left _ _⟩
  · rw [h.weights_left]
    exact ⟨_, List.mem_append_right _ (List.mem_map.mpr ⟨p, hp, rfl⟩), h.rest_le hw hsorted hp,
      (min_le_right _ _).trans (h.fair_le hw hp)⟩

end Grants

theorem mem_of_grantUnder {grants : List (Nat × Nat)} {number : Nat} (h : number ∈ grants.map Prod.fst) :
    (number, grantUnder number grants) ∈ grants := by
  obtain ⟨g, hg, hnumber⟩ := List.mem_map.mp h
  obtain ⟨x, hx⟩ := Option.isSome_iff_exists.mp
    (List.find?_isSome (p := fun g => g.1 == number).mpr ⟨g, hg, beq_iff_eq.mpr hnumber⟩)
  have hpasses : (x.1 == number) = true := List.find?_some (p := fun g : Nat × Nat => g.1 == number) hx
  have hgrant : grantUnder number grants = x.2 := by simp [grantUnder, hx]
  rw [hgrant, ← beq_iff_eq.mp hpasses]
  exact List.mem_of_find?_eq_some hx

/-- Settles O19: the walk serves a run of participants and shares what is left among the rest. -/
theorem theWaterFillIsFair : Obligations.TheWaterFillIsFair := by
  refine ⟨fun capacity own peers => ⟨fun hnone => if_pos hnone, fun hfits => ?_, fun hsome hexceeds _ => ?_⟩,
    fun capacity ps hw => ?_⟩
  · unfold waterFill
    rw [if_pos hfits]
    split
    next hnone => exact hnone.symm
    next => rfl
  · obtain ⟨satisfied, rest, h⟩ := exists_walkOf (remaining := capacity) (le_refl (totalWeight (orderParticipants (own :: peers))))
    unfold waterFill
    rw [if_neg hsome, if_neg (by omega)]
    refine mem_of_grantUnder ?_
    unfold fill
    rw [← totalWeight_orderParticipants, h.numbers]
    exact List.mem_map.mpr ⟨own, (orderParticipants_perm _).mem_iff.mpr List.mem_cons_self, rfl⟩
  · obtain ⟨satisfied, rest, h⟩ := exists_walkOf (remaining := capacity) (le_refl (totalWeight (orderParticipants ps)))
    have hweights : ∀ p ∈ orderParticipants ps, 1 ≤ p.weight :=
      fun p hp => hw p ((orderParticipants_perm ps).mem_iff.mp hp)
    have hsorted : (orderParticipants ps).Pairwise fun a b => a.demand * b.weight ≤ b.demand * a.weight :=
      (orderParticipants_sorted hw).imp_of_mem fun {a b} ha hb hle =>
        (Participant.demand_le_iff (hweights _ ha) (hweights _ hb)).mp ((Prod.Lex.le_iff.mp hle).elim le_of_lt fun e => e.1.le)
    have hfill : fill capacity ps = walk capacity (totalWeight (orderParticipants ps)) (orderParticipants ps) := by
      rw [fill, totalWeight_orderParticipants]
    have htotal := totalWeight_orderParticipants ps
    refine ⟨⟨satisfied, rest, h.split, ?_, fun pre p post hp => ?_, fun p post hp => ?_, h.covered, fun hexceeds hnil => ?_⟩,
      ?_, ?_, fun p hp => ?_⟩
    · rw [hfill, h.grants, htotal]; rfl
    · have := h.served pre p post hp
      rwa [htotal] at this
    · have := h.stops p post hp
      rwa [htotal] at this
    · have hall := totalDemand_orderParticipants ps
      rw [h.split, hnil, List.append_nil] at hall
      have hcovered := h.covered
      rw [hall] at hcovered
      exact absurd hexceeds (Nat.not_lt.mpr hcovered)
    · rw [hfill]; exact h.sum_le
    · rw [hfill]; exact h.numbers
    · obtain ⟨grant, hmem, hle, hge⟩ := h.grant hweights hsorted ((orderParticipants_perm ps).mem_iff.mpr hp)
      rw [htotal] at hge
      rw [hfill]
      exact ⟨grant, hmem, hle, hge⟩

end Sys2Proof.Machine
end

section
/-! The feeder and the events of protection (Chapters 6 and 7): what one event on a channel leaves behind, and the statements
about confirms, deadlines and the timers of protection. -/

namespace Sys2Proof.Machine

/-! ### One event on a channel -/

section Settle

variable (s : State) (im : Image) (k : Fin 4) (after : Channel) (cause : Option AlarmCause)

theorem State.settleChannel_faultOut :
    (s.settleChannel im k after cause).faultOut = (s.settleChannel im k after cause).faultLevel := by
  rcases s.settleChannel_eq im k after cause with h | ⟨b, h⟩ <;> rw [h] <;> rfl

/-- An event on a channel changes that channel, the FAULT output and the link alone (R112). -/
theorem State.settleChannel_eventOn : s.EventOn (s.settleChannel im k after cause) k := by
  refine ⟨?_, fun j hj => ?_, s.settleChannel_faultOut im k after cause⟩
  · rcases s.settleChannel_eq im k after cause with h | ⟨b, h⟩ <;> rw [h] <;> rfl
  · rw [State.settleChannel_channel, if_neg hj]

theorem State.settleChannel_channel_same : (s.settleChannel im k after cause).channel k =
    supervise (im.channel k) s.flow.v s.flow.idle (s.channel k) after := by
  rw [State.settleChannel_channel, if_pos rfl]

theorem State.settleChannel_queued {c : AlarmCause}
    (h : alarmCalled (s.channel k) ((s.settleChannel im k after (some c)).channel k) = true) :
    s.Queued (s.settleChannel im k after (some c))
      (((s.settleChannel im k after (some c)).channel k).alarmOf k c (s.channel k).state) := by
  rw [State.settleChannel_channel_same] at h ⊢
  unfold State.settleChannel
  dsimp only
  rw [if_pos h]
  exact ⟨rfl, rfl⟩

theorem State.settleChannel_nothing {c : AlarmCause}
    (h : alarmCalled (s.channel k) ((s.settleChannel im k after (some c)).channel k) = false) :
    s.NothingQueued (s.settleChannel im k after (some c)) := by
  rw [State.settleChannel_channel_same] at h
  unfold State.settleChannel
  dsimp only
  rw [if_neg (by simp [h])]
  exact ⟨rfl, rfl⟩

end Settle

/-! ### The supervised channel -/

theorem captureLockout_eq_recordOf (cc : ChannelConfig) (v : Nat) (c : Channel) (cause : LockCause) :
    captureLockout cc v c cause = c.recordOf cc v cause := by
  simp only [captureLockout, Channel.recordOf, Channel.estimate, beq_iff_eq]
  rfl

section Supervised

variable {cc : ChannelConfig} {v : Nat} {idle : Bool} {b a : Channel} {st : ChannelState}

/-- The channel after an event, with the state that its conditions give (R111, R112, R30, R95, R106). -/
theorem supervise_eq (hst : a.sup.derive idle = st) : supervise cc v idle b a = { a with
    state := st
    dose :=
      if b.state = .dosing ∧ st ≠ .dosing then { a.dose with mCap := 0, gch := 0, feedLimit := false } else a.dose
    feeder :=
      { a.feeder with
        ac := if b.state = .dosing ∧ st ≠ .dosing then 0 else a.feeder.ac
        inh := decide (st = .locked) }
    sup := { a.sup with lockout := lockoutAfter cc v b a st }
    iv := { a.iv with condActive := a.iv.condActive || anyBecameActive b.sup a.sup } } := by
  subst hst
  simp [supervise, DoseEngine.leaveDosing, beq_eq_decide, bne]

theorem lockoutAfter_of_not_locked (hst : st ≠ .locked) : lockoutAfter cc v b a st = a.sup.lockout := by
  simp [lockoutAfter, hst]

/-- A channel that stays LOCKED while neither lockout condition becomes ACTIVE keeps its record. -/
theorem lockoutAfter_of_kept (hb : st = .locked → b.state = .locked)
    (hh : becameActive b.sup.highHigh a.sup.highHigh = false) (hr : becameActive b.sup.runOn a.sup.runOn = false) :
    lockoutAfter cc v b a st = a.sup.lockout := by
  by_cases hst : st = .locked
  · simp [lockoutAfter, hst, hb hst, hh, hr]
  · exact lockoutAfter_of_not_locked hst

/-- RUN-ON becomes ACTIVE: the record of the lockout, or an additional cause in it (R122, R123). -/
theorem lockoutAfter_of_runOn (hst : st = .locked) (hh : becameActive b.sup.highHigh a.sup.highHigh = false)
    (hr : becameActive b.sup.runOn a.sup.runOn = true) : lockoutAfter cc v b a st =
      if b.state = .locked then a.sup.lockout.map fun r => { r with additionalRunOn := true }
      else some (b.recordOf cc v .runOn) := by
  simp [lockoutAfter, hst, hh, hr, captureLockout_eq_recordOf]

/-- HIGH-HIGH RESIDUAL becomes ACTIVE: the record of the lockout, or an additional cause in it (R122, R123). -/
theorem lockoutAfter_of_highHigh (hst : st = .locked) (hh : becameActive b.sup.highHigh a.sup.highHigh = true)
    (hr : becameActive b.sup.runOn a.sup.runOn = false) : lockoutAfter cc v b a st =
      if b.state = .locked then a.sup.lockout.map fun r => { r with additionalHighHigh := true }
      else some (b.recordOf cc v .highHigh) := by
  simp [lockoutAfter, hst, hh, hr, captureLockout_eq_recordOf]

end Supervised

/-- The precedence of the states (R111). -/
theorem Supervisor.derive_eq (p : Supervisor) (idle : Bool) : p.derive idle =
    if p.highHigh = .active ∨ p.runOn = .active then .locked
    else if p.feederFault = .active then .faulted
    else if p.high = .active then .held
    else if idle = true then .standby else .dosing := by
  simp only [Supervisor.derive, Bool.or_eq_true, beq_iff_eq]

/-- An ALARM is called for when a condition crosses ACTIVE, or a state that matters is entered or left (R129). -/
theorem alarmCalled_of_crossed {b a : Channel} (h : conditionsCrossed b.sup a.sup = true) : alarmCalled b a = true := by
  simp [alarmCalled, h]

theorem alarmCalled_of_same {b a : Channel} (h : conditionsCrossed b.sup a.sup = false) (hst : a.state = b.state) :
    alarmCalled b a = false := by
  simp [alarmCalled, h, hst]

theorem crossedActive_self (c : Cond) : crossedActive c c = false := by simp [crossedActive]

theorem State.StatesDerived.state_eq {s : State} (h : s.StatesDerived) {im : Image} (hs : s.service = some im) {k : Fin 4}
    (hk : (im.channel k).kind ≠ .none) : (s.channel k).state = (s.channel k).sup.derive s.flow.idle := by
  rw [h im hs k, if_pos (ChannelConfig.configured_iff.mpr hk)]

/-! ### The feeder -/

/-- Settles O22: the issue test after the timer has stopped. -/
theorem theStrokeTimerIssuesOrStops : Obligations.TheStrokeTimerIssuesOrStops := by
  intro s im k hs hk hdue
  have hready : ((im.channel k).configured && (s.channel k).feeder.timer.due) = true := by
    rw [ChannelConfig.configured_iff.mpr hk, Timer.due_iff.mpr hdue]; rfl
  have hexec : exec (.strokeIntervalExpiry k) s = .next (s.setChannel k (Channel.issueTest (im.channel k)
      { s.channel k with feeder := { (s.channel k).feeder with timer := none } })) := by
    show execStrokeIntervalExpiry k s = _
    simp only [execStrokeIntervalExpiry, hs, if_pos hready]
  have hpasses : Channel.mayStroke (im.channel k)
      { s.channel k with feeder := { (s.channel k).feeder with timer := none } } = true ↔
      (s.channel k).state = .dosing ∧ (im.channel k).strokeMass ≤ (s.channel k).feeder.ac ∧
        (s.channel k).feeder.strokes.length < 8 := by
    rw [Channel.mayStroke_iff]; simp
  dsimp only
  rw [hexec, ← hpasses]
  exact ⟨fun hp => by rw [Channel.issueTest_of_passes hp]; rfl, fun hp => by rw [Channel.issueTest_of_fails hp]⟩

/-- Settles O23: the front entry's state says which confirm it is. -/
theorem aConfirmMatchesTheOldestStroke : Obligations.AConfirmMatchesTheOldestStroke := by
  intro s im k n rest hs hk
  have hconf := ChannelConfig.configured_iff.mpr hk
  have hexec : exec (.confirm k) s = execConfirm k s := rfl
  refine ⟨fun hfront => ?_, fun hfront => ?_⟩ <;>
    simp only [hexec, execConfirm, hs, hconf, if_true, hfront] <;> rfl

theorem execConfirm_of_empty {s : State} {im : Image} {k : Fin 4} (hs : s.service = some im)
    (hk : (im.channel k).kind ≠ .none) (hempty : (s.channel k).feeder.strokes = []) : exec (.confirm k) s =
      .next (s.settleChannel im k ((s.channel k).confirmUnexpected (im.channel k)) (some .runOnEvent)).settleRestart := by
  have hexec : exec (.confirm k) s = execConfirm k s := rfl
  simp only [hexec, execConfirm, hs, ChannelConfig.configured_iff.mpr hk, if_true, hempty]

/-- A run-on event that makes RUN-ON ACTIVE: the second one, or the first with a run-on time of 0 s (R117). -/
theorem Supervisor.runOnEvent_of_locks {cc : ChannelConfig} {p : Supervisor}
    (h : p.runOn = .alert ∨ (p.runOn = .clear ∧ cc.runOnTime = 0)) : p.runOnEvent cc = { p with
      quietTimer := startS cc.quietTime, runOn := .active
      runOnTimer := if p.runOn = .alert then none else p.runOnTimer } := by
  rcases h with h | ⟨h, hzero⟩
  · simp [Supervisor.runOnEvent, Supervisor.judgeRunOn, h]
  · simp [Supervisor.runOnEvent, Supervisor.judgeRunOn, h, hzero]

theorem Supervisor.runOnEvent_of_alerts {cc : ChannelConfig} {p : Supervisor} (h : p.runOn = .clear)
    (htime : 0 < cc.runOnTime) : p.runOnEvent cc = { p with
      quietTimer := startS cc.quietTime, runOn := .alert, runOnTimer := startS cc.runOnTime } := by
  simp [Supervisor.runOnEvent, Supervisor.judgeRunOn, h, htime.ne']

theorem Supervisor.runOnEvent_of_active {cc : ChannelConfig} {p : Supervisor} (h : p.runOn = .active) :
    p.runOnEvent cc = { p with quietTimer := startS cc.quietTime } := by
  simp [Supervisor.runOnEvent, Supervisor.judgeRunOn, h]

/-- An event that leaves the state as it was, and in which neither lockout condition becomes ACTIVE: only the inhibit and
the flag of R146 follow it. -/
theorem supervise_of_state_kept {cc : ChannelConfig} {v : Nat} {idle : Bool} {b a : Channel}
    (hst : a.sup.derive idle = b.state) (hh : becameActive b.sup.highHigh a.sup.highHigh = false)
    (hr : becameActive b.sup.runOn a.sup.runOn = false) : supervise cc v idle b a = { a with
      state := b.state
      feeder := { a.feeder with inh := decide (b.state = .locked) }
      iv := { a.iv with condActive := a.iv.condActive || anyBecameActive b.sup a.sup } } := by
  rw [supervise_eq hst, lockoutAfter_of_kept id hh hr, if_neg fun h => h.2 h.1, if_neg fun h => h.2 h.1]

section UnexpectedConfirm

variable {cc : ChannelConfig} {v : Nat} {idle : Bool} {c : Channel}

theorem supervise_confirmUnexpected_of_alerts (hst : c.state = c.sup.derive idle) (h : c.sup.runOn = .clear)
    (htime : 0 < cc.runOnTime) : supervise cc v idle c (c.confirmUnexpected cc) = { c with
      sup := { c.sup with
        quietTimer := startS cc.quietTime, runOn := .alert, runOnTimer := startS cc.runOnTime }
      feeder := { c.feeder with inh := decide (c.state = .locked) }
      iv := { c.iv with unexpected := satAdd top16 c.iv.unexpected 1 } } := by
  rw [supervise_of_state_kept] <;>
    simp [Channel.confirmUnexpected, Supervisor.runOnEvent_of_alerts h htime, Supervisor.derive_eq, hst, h,
      becameActive, anyBecameActive]

theorem supervise_confirmUnexpected_of_active (hst : c.state = c.sup.derive idle) (h : c.sup.runOn = .active) :
    supervise cc v idle c (c.confirmUnexpected cc) = { c with
      sup := { c.sup with quietTimer := startS cc.quietTime }
      feeder := { c.feeder with inh := decide (c.state = .locked) }
      iv := { c.iv with unexpected := satAdd top16 c.iv.unexpected 1 } } := by
  rw [supervise_of_state_kept] <;>
    simp [Channel.confirmUnexpected, Supervisor.runOnEvent_of_active h, Supervisor.derive_eq, hst, h,
      becameActive, anyBecameActive]

theorem supervise_confirmUnexpected_of_locks
    (h : c.sup.runOn = .alert ∨ (c.sup.runOn = .clear ∧ cc.runOnTime = 0)) :
    supervise cc v idle c (c.confirmUnexpected cc) = { c with
      state := .locked
      sup := { c.sup with
        quietTimer := startS cc.quietTime
        runOn := .active
        runOnTimer := if c.sup.runOn = .alert then none else c.sup.runOnTimer
        lockout := if c.state = .locked
          then c.sup.lockout.map fun r => { r with additionalRunOn := true }
          else some (c.recordOf cc v .runOn) }
      dose := if c.state = .dosing then { c.dose with mCap := 0, gch := 0, feedLimit := false } else c.dose
      feeder := { c.feeder with ac := if c.state = .dosing then 0 else c.feeder.ac, inh := true }
      iv := { c.iv with unexpected := satAdd top16 c.iv.unexpected 1, condActive := true } } := by
  have hne : c.sup.runOn ≠ .active := by rcases h with h | ⟨h, -⟩ <;> simp [h]
  rw [supervise_eq (st := .locked), lockoutAfter_of_runOn rfl] <;>
    simp [Channel.confirmUnexpected, Supervisor.runOnEvent_of_locks h, Supervisor.derive_eq, becameActive,
      anyBecameActive, hne]

end UnexpectedConfirm

/-- Settles O24, by the three states of RUN-ON before the event. -/
theorem anUnexpectedConfirmIsRunOn : Obligations.AnUnexpectedConfirmIsRunOn := by
  intro s im k hs hk hder hempty
  have hst := hder.state_eq hs hk
  refine ⟨_, execConfirm_of_empty hs hk hempty, s.settleChannel_eventOn im k _ _, ?_⟩
  have hsame := s.settleChannel_channel_same im k ((s.channel k).confirmUnexpected (im.channel k)) (some .runOnEvent)
  have hnothing := @State.settleChannel_nothing s im k ((s.channel k).confirmUnexpected (im.channel k)) .runOnEvent
  have hqueued := @State.settleChannel_queued s im k ((s.channel k).confirmUnexpected (im.channel k)) .runOnEvent
  generalize s.settleChannel im k ((s.channel k).confirmUnexpected (im.channel k)) (some .runOnEvent) = t at *
  generalize s.channel k = c at *
  have hlocks (h : c.sup.runOn = .alert ∨ (c.sup.runOn = .clear ∧ (im.channel k).runOnTime = 0)) :
      alarmCalled c (t.channel k) = true :=
    alarmCalled_of_crossed (by
      rw [hsame, supervise_confirmUnexpected_of_locks h]
      rcases h with h | ⟨h, -⟩ <;> simp [conditionsCrossed, crossedActive, h])
  dsimp only
  cases hrun : c.sup.runOn with
  | clear =>
    rcases Nat.eq_zero_or_pos (im.channel k).runOnTime with hzero | htime
    · have hd := hsame.trans (supervise_confirmUnexpected_of_locks (.inr ⟨hrun, hzero⟩))
      have hq := hqueued (hlocks (.inr ⟨hrun, hzero⟩))
      generalize t.channel k = d at *
      subst hd
      simpa [hrun, hzero, startS, ChannelConfig.quietTime, satAdd, top16] using hq
    · have hd := hsame.trans (supervise_confirmUnexpected_of_alerts hst hrun htime)
      have hn := hnothing (by
        rw [hd]; exact alarmCalled_of_same (by simp [conditionsCrossed, crossedActive, hrun]) rfl)
      rw [hd]
      simpa [hrun, htime, htime.ne', startS, ChannelConfig.quietTime, satAdd, top16] using hn
  | alert =>
    have hd := hsame.trans (supervise_confirmUnexpected_of_locks (.inl hrun))
    have hq := hqueued (hlocks (.inl hrun))
    generalize t.channel k = d at *
    subst hd
    simpa [hrun, startS, ChannelConfig.quietTime, satAdd, top16] using hq
  | active =>
    have hd := hsame.trans (supervise_confirmUnexpected_of_active hst hrun)
    have hn := hnothing (by
      rw [hd]; exact alarmCalled_of_same (by simp [conditionsCrossed, crossedActive]) rfl)
    have hlocked : c.state = .locked := by
      rw [hst, Supervisor.derive_eq]; exact if_pos (.inr hrun)
    rw [hd]
    simpa [hrun, hlocked, startS, ChannelConfig.quietTime, satAdd, top16] using hn

/-! ### Deadlines -/

theorem missFirst_of_first {missed rest : List Stroke} (h : ∀ e ∈ missed, e.state = .missed) (window n : Nat) :
    missFirst window (missed ++ ⟨.pending, n⟩ :: rest) = missed ++ ⟨.missed, window⟩ :: rest := by
  induction missed with
  | nil => rfl
  | cons e es ih =>
    have he : e.state = .missed := h e List.mem_cons_self
    have hes := ih fun x hx => h x (List.mem_cons_of_mem e hx)
    rw [List.cons_append, missFirst, he, List.cons_append]
    exact congrArg (e :: ·) hes

theorem Channel.miss_eq {cc : ChannelConfig} {c : Channel} {missed rest : List Stroke} {n : Nat}
    (hes : c.feeder.strokes = missed ++ ⟨.pending, n⟩ :: rest) (h : ∀ e ∈ missed, e.state = .missed) :
    c.miss cc = { c with
      feeder := { c.feeder with
        strokes := missed ++ ⟨.missed, cc.confirmWindow⟩ :: rest, misses := min 255 (c.feeder.misses + 1) }
      iv := { c.iv with missed := min 65535 (c.iv.missed + 1) } } := by
  rw [Channel.miss, hes, missFirst_of_first h]
  rfl

/-- The precedence when FEEDER FAULT is ACTIVE (R111, R119). -/
theorem Supervisor.derive_of_feederFault {p : Supervisor} {idle : Bool} :
    { p with feederFault := .active }.derive idle = if p.derive idle = .locked then .locked else .faulted := by
  rw [Supervisor.derive_eq]
  simp only [Supervisor.derive_eq_locked_iff, if_true]

/-- FEEDER FAULT becomes ACTIVE, or stays so, on a channel. -/
theorem supervise_of_feederFault {cc : ChannelConfig} {v : Nat} {idle : Bool} {b a : Channel}
    (hst : b.state = b.sup.derive idle) (ha : a.sup = b.sup) :
    supervise cc v idle b { a with sup := { a.sup with feederFault := .active } } = { a with
      state := if b.state = .locked then .locked else .faulted
      sup := { b.sup with feederFault := .active }
      dose := if b.state = .dosing then { a.dose with mCap := 0, gch := 0, feedLimit := false } else a.dose
      feeder := { a.feeder with
        ac := if b.state = .dosing then 0 else a.feeder.ac, inh := decide (b.state = .locked) }
      iv := { a.iv with
        condActive := if b.sup.feederFault = .active then a.iv.condActive else true } } := by
  have hderive := Supervisor.derive_of_feederFault (p := b.sup) (idle := idle)
  rw [← hst] at hderive
  have hlockout : lockoutAfter cc v b { a with sup := { b.sup with feederFault := .active } }
      (if b.state = .locked then .locked else .faulted) = b.sup.lockout :=
    lockoutAfter_of_kept (fun h => by by_contra hne; rw [if_neg hne] at h; cases h) (becameActive_self _)
      (becameActive_self _)
  rw [ha, supervise_eq hderive, hlockout]
  by_cases hf : b.sup.feederFault = .active <;> by_cases hl : b.state = .locked <;>
    simp [hf, hl, anyBecameActive, becameActive]

/-- Settles O25: the first PENDING entry turns MISSED, and the limit makes FEEDER FAULT ACTIVE. -/
theorem deadlinesCountAndRemove : Obligations.DeadlinesCountAndRemove := by
  refine ⟨fun s im k missed rest hs hk hes hall => ?_, fun s im k rest hs hk hes => ?_⟩
  · have hconf := ChannelConfig.configured_iff.mpr hk
    have hdue := deadlineDue_iff.mpr ⟨missed, rest, hes, hall⟩
    have hready : ((im.channel k).configured && deadlineDue (s.channel k).feeder.strokes) = true := by
      rw [hconf, hdue]; rfl
    have hmiss := Channel.miss_eq (cc := im.channel k) hes hall
    have hexec : exec (.deadlineExpiry k) s = execDeadlineExpiry k s := rfl
    simp only [hexec, execDeadlineExpiry, hs, if_pos hready]
    refine ⟨fun hbelow => (if_neg hbelow).trans (by rw [hmiss]), fun hlimit hder => ?_⟩
    have hd := (s.settleChannel_channel_same im k { (s.channel k).miss (im.channel k) with
      sup := { (s.channel k).sup with feederFault := .active } } (some .feederFaultEvent)).trans
      (supervise_of_feederFault (a := (s.channel k).miss (im.channel k)) (hder.state_eq hs hk) rfl)
    refine ⟨_, if_pos hlimit, s.settleChannel_eventOn im k _ _, congrArg Channel.sup hd, congrArg Channel.state hd,
      congrArg Channel.dose hd, (congrArg Channel.feeder hd).trans (by rw [hmiss]),
      (congrArg Channel.iv hd).trans (by rw [hmiss]), fun hactive => State.settleChannel_nothing _ _ _ _ ?_,
      fun hnot => State.settleChannel_queued _ _ _ _ (alarmCalled_of_crossed ?_)⟩
    · refine alarmCalled_of_same ((congrArg _ (congrArg Channel.sup hd)).trans ?_) ((congrArg Channel.state hd).trans ?_)
      · simp [conditionsCrossed, crossedActive, hactive]
      · rw [hder.state_eq hs hk, ← Supervisor.derive_of_feederFault, ← hactive]
    · refine (congrArg _ (congrArg Channel.sup hd)).trans ?_
      simp [conditionsCrossed, crossedActive, hnot]
  · have hexec : exec (.graceDeadlineExpiry k) s = execGraceDeadlineExpiry k s := rfl
    simp only [hexec, execGraceDeadlineExpiry, hs, ChannelConfig.configured_iff.mpr hk, if_true, hes]

/-! ### The timers of protection -/

section Raise

variable {cc : ChannelConfig} {v : Nat} {idle : Bool} {c : Channel}

theorem supervise_raise_low (hst : c.state = c.sup.derive idle) (h : c.sup.low = .alert) :
    supervise cc v idle c { c with sup := c.sup.raise .low } = { c with
      sup := { c.sup with low := .active, tL := none }
      feeder := { c.feeder with inh := decide (c.state = .locked) }
      iv := { c.iv with condActive := true } } := by
  rw [supervise_of_state_kept (a := { c with sup := c.sup.raise .low }) hst.symm (becameActive_self _)
    (becameActive_self _)]
  simp [Supervisor.raise, anyBecameActive, becameActive, h]

theorem supervise_raise_high (hst : c.state = c.sup.derive idle) (h : c.sup.high = .alert) :
    supervise cc v idle c { c with sup := c.sup.raise .high } = { c with
      state := if c.state = .locked ∨ c.state = .faulted then c.state else .held
      sup := { c.sup with high := .active, tH := none }
      dose := if c.state = .dosing then { c.dose with mCap := 0, gch := 0, feedLimit := false } else c.dose
      feeder := { c.feeder with
        ac := if c.state = .dosing then 0 else c.feeder.ac, inh := decide (c.state = .locked) }
      iv := { c.iv with condActive := true } } := by
  have hderive : (c.sup.raise .high).derive idle =
      if c.state = .locked ∨ c.state = .faulted then c.state else .held := by
    rw [hst, Supervisor.derive_eq, Supervisor.derive_eq]
    simp only [Supervisor.raise]
    split_ifs <;> simp_all
  have hlockout : lockoutAfter cc v c { c with sup := c.sup.raise .high }
      (if c.state = .locked ∨ c.state = .faulted then c.state else .held) = c.sup.lockout :=
    lockoutAfter_of_kept (fun hl => by split at hl <;> first | exact hl | cases hl) (becameActive_self _)
      (becameActive_self _)
  rw [supervise_eq hderive, hlockout]
  cases hc : c.state <;> simp [Supervisor.raise, anyBecameActive, becameActive, h]

theorem supervise_raise_highHigh (h : c.sup.highHigh = .alert) :
    supervise cc v idle c { c with sup := c.sup.raise .highHigh } = { c with
      state := .locked
      sup := { c.sup with
        highHigh := .active
        tHH := none
        lockout := if c.state = .locked
          then c.sup.lockout.map fun r => { r with additionalHighHigh := true }
          else some (c.recordOf cc v .highHigh) }
      dose := if c.state = .dosing then { c.dose with mCap := 0, gch := 0, feedLimit := false } else c.dose
      feeder := { c.feeder with ac := if c.state = .dosing then 0 else c.feeder.ac, inh := true }
      iv := { c.iv with condActive := true } } := by
  have hlockout : lockoutAfter cc v c { c with sup := c.sup.raise .highHigh } .locked =
      if c.state = .locked then c.sup.lockout.map fun r => { r with additionalHighHigh := true }
      else some (c.recordOf cc v .highHigh) :=
    lockoutAfter_of_highHigh rfl (becameActive_iff.mpr ⟨by rw [h]; decide, rfl⟩) (becameActive_self _)
  rw [supervise_eq (st := .locked) (by simp [Supervisor.derive_eq, Supervisor.raise]), hlockout]
  simp [Supervisor.raise, anyBecameActive, becameActive, h]

theorem supervise_runOn_over (hst : c.state = c.sup.derive idle) (h : c.sup.runOn = .alert) :
    supervise cc v idle c { c with sup := { c.sup with runOn := .clear, runOnTimer := none } } = { c with
      sup := { c.sup with runOn := .clear, runOnTimer := none }
      feeder := { c.feeder with inh := decide (c.state = .locked) } } := by
  have hraised : anyBecameActive c.sup { c.sup with runOn := .clear, runOnTimer := none } = false :=
    anyBecameActive_eq_false id id id nofun id id
  rw [supervise_of_nothing_raised hst hraised]
  simp [hst, Supervisor.derive_eq, h, beq_eq_decide]

theorem conditionsCrossed_raise {p : Supervisor} {w : ResidualCondition} (h : p.condition w = .alert)
    (l : Option Lockout) : conditionsCrossed p { p.raise w with lockout := l } = true := by
  cases w <;> simp only [Supervisor.condition] at h <;> simp [Supervisor.raise, conditionsCrossed, crossedActive, h]

end Raise

/-- Settles O26, by the condition whose timer has expired. -/
theorem anAlertExpiryRaisesItsCondition : Obligations.AnAlertExpiryRaisesItsCondition := by
  intro s im k w hs hk hder halert htimer
  have hst := hder.state_eq hs hk
  have hready : ((im.channel k).configured && (s.channel k).sup.condition w == .alert &&
      ((s.channel k).sup.alertTimer w).due) = true := by
    rw [ChannelConfig.configured_iff.mpr hk, halert, Timer.due_iff.mpr htimer]; rfl
  have hexec : exec (.alertTimerExpiry k w) s = execAlertTimerExpiry k w s := rfl
  refine ⟨s.settleChannel im k { s.channel k with sup := (s.channel k).sup.raise w } (some (expiryCause w)), ?_,
    s.settleChannel_eventOn im k _ _, ?_⟩
  · simp only [hexec, execAlertTimerExpiry, hs, if_pos hready]
  have hsame := s.settleChannel_channel_same im k { s.channel k with sup := (s.channel k).sup.raise w }
    (some (expiryCause w))
  have hq := s.settleChannel_queued im k { s.channel k with sup := (s.channel k).sup.raise w } (c := expiryCause w)
    (alarmCalled_of_crossed (by rw [hsame]; exact conditionsCrossed_raise halert _))
  generalize s.settleChannel im k { s.channel k with sup := (s.channel k).sup.raise w } (some (expiryCause w)) = t at *
  generalize s.channel k = c at *
  dsimp only
  cases w with
  | low =>
    have hd := hsame.trans (supervise_raise_low hst halert)
    generalize t.channel k = d at *
    subst hd
    simpa [expiryCause] using hq
  | high =>
    have hd := hsame.trans (supervise_raise_high hst halert)
    generalize t.channel k = d at *
    subst hd
    cases hc : c.state <;> simpa [expiryCause, hc] using hq
  | highHigh =>
    have hd := hsame.trans (supervise_raise_highHigh halert)
    generalize t.channel k = d at *
    subst hd
    simpa [expiryCause] using hq

/-- Settles O27: RUN-ON in ALERT is not ACTIVE, so its return to CLEAR moves no state and calls no ALARM. -/
theorem runOnAndQuietTimersRunOut : Obligations.RunOnAndQuietTimersRunOut := by
  intro s im k hs hk
  have hconf := ChannelConfig.configured_iff.mpr hk
  refine ⟨fun hder halert htimer => ?_, fun htimer => ?_⟩
  · have hst := hder.state_eq hs hk
    have hready : ((im.channel k).configured && (s.channel k).sup.runOn == .alert &&
        (s.channel k).sup.runOnTimer.due) = true := by
      rw [hconf, halert, Timer.due_iff.mpr htimer]; rfl
    have hexec : exec (.runOnTimerExpiry k) s = execRunOnTimerExpiry k s := rfl
    let after : Channel := { s.channel k with sup := { (s.channel k).sup with runOn := .clear, runOnTimer := none } }
    have hd := (s.settleChannel_channel_same im k after none).trans (supervise_runOn_over hst halert)
    refine ⟨s.settleChannel im k after none, ?_, s.settleChannel_eventOn im k after none, ⟨rfl, rfl⟩, ?_⟩
    · simp only [hexec, execRunOnTimerExpiry, hs, if_pos hready]
      rfl
    · rw [hd]
      exact ⟨rfl, rfl, rfl, rfl, rfl⟩
  · have hready : ((im.channel k).configured && (s.channel k).sup.quietTimer.due) = true := by
      rw [hconf, Timer.due_iff.mpr htimer]; rfl
    have hexec : exec (.quietTimerExpiry k) s = execQuietTimerExpiry k s := rfl
    simp only [hexec, execQuietTimerExpiry, hs, if_pos hready]

end Sys2Proof.Machine
end

section
/-! The analyzer line (Chapters 3 and 7): events on several channels with their ALARMs, how bytes make messages, stale and
fresh reports, and the statements about them. -/

namespace Sys2Proof.Machine

/-! ### Events on several channels, each with its ALARM -/

/-- Two states agree on all that the transmit queue and its attempts depend on. -/
def State.SameLine (w u : State) : Prop :=
  u = { w with intake := u.intake, channels := u.channels, faultOut := u.faultOut }

theorem State.SameLine.refl (s : State) : s.SameLine s := rfl

theorem State.SameLine.trans {s t u : State} (h : s.SameLine t) (h' : t.SameLine u) : s.SameLine u := by
  have hfields := congrArg (fun x : State =>
    { x with intake := u.intake, channels := u.channels, faultOut := u.faultOut }) h
  unfold State.SameLine at h'
  exact h'.trans hfields

theorem State.SameLine.link_eq {w u : State} (h : w.SameLine u) : u.link = w.link := by
  unfold State.SameLine at h; rw [h]

theorem State.SameLine.freeCount_eq {w u : State} (h : w.SameLine u) : u.freeCount = w.freeCount := by
  unfold State.SameLine at h; rw [h]

theorem State.SameLine.enqueue {w u : State} (h : w.SameLine u) (b : Body) : (w.enqueue b).SameLine (u.enqueue b) :=
  congrArg (fun x : State => x.enqueue b) h

/-- The transmit queue after the ALARMs of several channels, each queued where its channel calls for it (R129). -/
def State.alarmsOf (cause : AlarmCause) (before after : Fin 4 → Channel) (ks : List (Fin 4)) (s : State) : State :=
  ks.foldl (fun u k => if alarmCalled (before k) (after k) = true then
    u.enqueue ((after k).alarmOf k cause (before k).state) else u) s

theorem State.alarmsOf_eq (cause : AlarmCause) (before after : Fin 4 → Channel) (ks : List (Fin 4)) (s : State) :
    s.alarmsOf cause before after ks = { s with
      link := (s.alarmsOf cause before after ks).link
      freeCount := (s.alarmsOf cause before after ks).freeCount } := by
  unfold State.alarmsOf
  induction ks generalizing s with
  | nil => rfl
  | cons k ks ih =>
    rw [List.foldl_cons]
    split
    · exact ih _
    · exact ih _

/-- An event on a channel queues its ALARM, where it calls for one, and nothing else. -/
theorem State.SameLine.settleChannel {w u : State} (h : w.SameLine u) (im : Image) (k : Fin 4) (after : Channel)
    (cause : AlarmCause) : State.SameLine
      (w.alarmsOf cause u.channel (u.settleChannel im k after (some cause)).channel [k])
      (u.settleChannel im k after (some cause)) := by
  have hd := u.settleChannel_channel_same im k after (some cause)
  unfold State.alarmsOf
  rw [List.foldl_cons, List.foldl_nil, hd]
  unfold State.settleChannel
  dsimp only
  split
  · exact State.SameLine.enqueue (u := (u.setChannel k (supervise (im.channel k) u.flow.v u.flow.idle (u.channel k)
      after)).formFault) (h.trans rfl) _
  · exact h.trans rfl

theorem State.SameLine.forChannels {im : Image} {after : Fin 4 → Nat → Channel → Channel} {cause : AlarmCause}
    {before now : Fin 4 → Channel} {f : FlowUnit} {ks : List (Fin 4)} (hn : ks.Nodup) {w u : State} (h : w.SameLine u)
    (hflow : u.flow = f) (hbefore : ∀ k ∈ ks, u.channel k = before k)
    (hnow : ∀ k, now k = supervise (im.channel k) f.v f.idle (before k) (after k f.v (before k))) :
    State.SameLine (w.alarmsOf cause before now ks)
      (u.forChannels ks fun k s => s.settleChannel im k (after k s.flow.v (s.channel k)) (some cause)) := by
  induction ks generalizing w u with
  | nil => exact h
  | cons k ks ih =>
    obtain ⟨hk, hks⟩ := List.nodup_cons.mp hn
    have hone := h.settleChannel im k (after k u.flow.v (u.channel k)) cause
    have hfirst : w.alarmsOf cause u.channel
        (u.settleChannel im k (after k u.flow.v (u.channel k)) (some cause)).channel [k] =
          w.alarmsOf cause before now [k] := by
      unfold State.alarmsOf
      rw [List.foldl_cons, List.foldl_nil, List.foldl_cons, List.foldl_nil, State.settleChannel_channel_same, hflow,
        hbefore k List.mem_cons_self, ← hnow k]
    rw [hfirst] at hone
    exact ih hks hone ((State.settleChannel_flow ..).trans hflow) fun j hj => by
      rw [State.settleChannel_channel, if_neg (ne_of_mem_of_not_mem hj hk)]
      exact hbefore j (List.mem_cons_of_mem k hj)

/-! ### The channels of an analyzer -/

theorem channelNumbers_pairwise : channelNumbers.Pairwise (· < ·) := by decide

/-- The mapped channels are those that the manual names, in ascending order. -/
theorem Image.mapped_eq {im : Image} {a : Fin 8} {ks : List (Fin 4)} (hs : ks.Pairwise fun i j => i < j)
    (hm : ∀ k, k ∈ ks ↔ (im.channel k).kind ≠ .none ∧ (im.channel k).analyzer = some a) : ks = im.mapped a :=
  hs.eq_of_mem_iff ((channelNumbers_pairwise.filter _).filter _) fun k => by
    rw [hm, ← ChannelConfig.configured_iff]; exact Image.mem_mapped.symm

theorem Image.mem_mapped_iff {im : Image} {a : Fin 8} {k : Fin 4} :
    k ∈ im.mapped a ↔ (im.channel k).kind ≠ .none ∧ (im.channel k).analyzer = some a := by
  rw [Image.mem_mapped, ChannelConfig.configured_iff]

/-- A report of an analyzer to its channels: the Sample Intake is written, and each mapped channel has its event, in
ascending order (R37, R39, R120). -/
def State.report (s : State) (im : Image) (a : Fin 8) (i : SampleIntake)
    (after : Fin 4 → Nat → Channel → Channel) (cause : AlarmCause) : State :=
  ({ s with intake := i } : State).forChannels (im.mapped a) fun k s =>
    s.settleChannel im k (after k s.flow.v (s.channel k)) (some cause)

section Report

variable (s : State) (im : Image) (a : Fin 8) (i : SampleIntake) (after : Fin 4 → Nat → Channel → Channel)
  (cause : AlarmCause)

theorem State.report_channel (j : Fin 4) : (s.report im a i after cause).channel j =
    if (im.channel j).kind ≠ .none ∧ (im.channel j).analyzer = some a then
      supervise (im.channel j) s.flow.v s.flow.idle (s.channel j) (after j s.flow.v (s.channel j))
    else s.channel j := by
  have h := State.forChannels_settleChannel im after (fun _ => some cause) (im.mapped_nodup a)
    { s with intake := i } j
  simp only [Image.mem_mapped_iff] at h
  exact h

theorem State.report_channel_mapped {j : Fin 4} (hk : (im.channel j).kind ≠ .none)
    (ha : (im.channel j).analyzer = some a) : (s.report im a i after cause).channel j =
      supervise (im.channel j) s.flow.v s.flow.idle (s.channel j) (after j s.flow.v (s.channel j)) := by
  rw [State.report_channel, if_pos ⟨hk, ha⟩]

theorem State.report_channel_unmapped {j : Fin 4} (h : (im.channel j).kind = .none ∨ (im.channel j).analyzer ≠ some a) :
    (s.report im a i after cause).channel j = s.channel j := by
  rw [State.report_channel, if_neg fun hboth => h.elim hboth.1 (fun hne => hne hboth.2)]

theorem State.report_intake : (s.report im a i after cause).intake = i :=
  State.forChannels_same State.intake (fun k u => u.settleChannel_same State.intake (fun _ _ _ => rfl) (fun _ _ => rfl)
    im k _ _) _ _

/-- The ALARMs of a report, and all that they leave alone. -/
theorem State.report_alarms : State.SameLine
    (s.alarmsOf cause s.channel (s.report im a i after cause).channel (im.mapped a)) (s.report im a i after cause) := by
  have hmapped : ∀ k ∈ im.mapped a, (s.report im a i after cause).channel k =
      supervise (im.channel k) s.flow.v s.flow.idle (s.channel k) (after k s.flow.v (s.channel k)) := fun k hk => by
    rw [State.report_channel, if_pos (Image.mem_mapped_iff.mp hk)]
  have h := State.SameLine.forChannels (im := im) (after := after) (cause := cause) (before := s.channel) (f := s.flow)
    (im.mapped_nodup a) (w := s) (u := { s with intake := i })
    rfl rfl (fun _ _ => rfl) (fun _ => rfl)
  have hsame : s.alarmsOf cause s.channel (fun k => supervise (im.channel k) s.flow.v s.flow.idle (s.channel k)
      (after k s.flow.v (s.channel k))) (im.mapped a) =
      s.alarmsOf cause s.channel (s.report im a i after cause).channel (im.mapped a) :=
    List.foldl_ext _ _ _ fun u k hk => by rw [hmapped k hk]
  rw [← hsame]
  exact h

theorem State.report_eq : s.report im a i after cause = { s with
    intake := (s.report im a i after cause).intake, channels := (s.report im a i after cause).channels
    faultOut := (s.report im a i after cause).faultOut, link := (s.report im a i after cause).link
    freeCount := (s.report im a i after cause).freeCount } := by
  have h := s.report_alarms im a i after cause
  generalize s.report im a i after cause = t at *
  rw [State.SameLine, State.alarmsOf_eq] at h
  rw [h]

/-- The transmit queue after a report, where it is said of each mapped channel whether it calls for an ALARM. -/
theorem State.report_queued {ks : List (Fin 4)} (hs : ks.Pairwise fun i j => i < j)
    (hm : ∀ k, k ∈ ks ↔ (im.channel k).kind ≠ .none ∧ (im.channel k).analyzer = some a)
    {called : Fin 4 → Prop} [DecidablePred called]
    (hcalled : ∀ k, (im.channel k).kind ≠ .none → (im.channel k).analyzer = some a →
      (alarmCalled (s.channel k) ((s.report im a i after cause).channel k) = true ↔ called k)) :
    let t := s.report im a i after cause
    let queued := ks.foldl (fun u k => if called k then
      u.enqueue ((t.channel k).alarmOf k cause (s.channel k).state) else u) s
    t.link = queued.link ∧ t.freeCount = queued.freeCount := by
  have hfold : ks.foldl (fun u k => if called k then
      u.enqueue (((s.report im a i after cause).channel k).alarmOf k cause (s.channel k).state) else u) s =
      s.alarmsOf cause s.channel (s.report im a i after cause).channel (im.mapped a) := by
    rw [← Image.mapped_eq hs hm]
    refine List.foldl_ext _ _ _ fun u k hk => ?_
    obtain ⟨hkind, ha⟩ := (hm k).mp hk
    exact if_congr (hcalled k hkind ha).symm rfl rfl
  dsimp only
  rw [hfold]
  have h := s.report_alarms im a i after cause
  exact ⟨h.link_eq, h.freeCount_eq⟩

end Report

/-! ### A stale analyzer -/

theorem supervise_stale {cc : ChannelConfig} {v : Nat} {idle : Bool} {c : Channel} (hst : c.state = c.sup.derive idle) :
    supervise cc v idle c { c with sup := { c.sup with stale := .active } } = { c with
      sup := { c.sup with stale := .active }
      feeder := { c.feeder with inh := decide (c.state = .locked) }
      iv := { c.iv with condActive := if c.sup.stale = .active then c.iv.condActive else true } } := by
  rw [supervise_of_state_kept (a := { c with sup := { c.sup with stale := .active } }) hst.symm (becameActive_self _)
    (becameActive_self _)]
  by_cases h : c.sup.stale = .active <;> simp [anyBecameActive, becameActive, h]

/-- Settles O32: the report of a stale analyzer. -/
theorem aStaleAnalyzerIsReported : Obligations.AStaleAnalyzerIsReported := by
  refine ⟨fun s im a hs hder hdue => ?_, fun s a hnot => ?_⟩
  · let after : Fin 4 → Nat → Channel → Channel := fun _ _ c => { c with sup := { c.sup with stale := .active } }
    let i : SampleIntake :=
      { s.intake with records := s.intake.records.set a (s.intake.records.get a).goStale }
    let t := s.report im a i after .analyzerStale
    have hd : ∀ k, (im.channel k).kind ≠ .none → (im.channel k).analyzer = some a → t.channel k =
        supervise (im.channel k) s.flow.v s.flow.idle (s.channel k)
          { s.channel k with sup := { (s.channel k).sup with stale := .active } } :=
      fun k hk ha => s.report_channel_mapped im a i after _ hk ha
    have hintake : t.intake = i := s.report_intake im a i after _
    have hrecords : t.intake.records = s.intake.records.set a (s.intake.records.get a).goStale := by rw [hintake]
    refine ⟨t, ?_, ?_, ?_, fun b hb => ?_, fun k => ⟨fun ⟨hk, ha⟩ => ?_, fun hun => ?_⟩, fun ks hsort hm => ?_⟩
    · show execFreshnessTimerExpiry a s = _
      simp only [execFreshnessTimerExpiry, hs]
      exact if_pos (Timer.due_iff.mpr hdue)
    · have hkept : t.intake = { s.intake with records := t.intake.records } := by rw [hrecords, hintake]
      rw [← hkept]
      exact s.report_eq im a i after _
    · rw [hrecords, Eight.get_set_same]; rfl
    · rw [hrecords, Eight.get_set_other _ _ hb]
    · rw [hd k hk ha, supervise_stale (hder.state_eq hs hk)]
      exact ⟨rfl, rfl, rfl, rfl, rfl⟩
    · exact s.report_channel_unmapped im a i after _ hun
    · have h := s.report_queued im a i after .analyzerStale hsort hm
        (called := fun k => ¬ (s.channel k).sup.stale = .active) fun k hk ha => by
          rw [show (s.report im a i after .analyzerStale).channel k = _ from hd k hk ha,
            supervise_stale (hder.state_eq hs hk)]
          simp [alarmCalled, conditionsCrossed, crossedActive]
      simpa only [ite_not] using h
  · show execFreshnessTimerExpiry a s = _
    unfold execFreshnessTimerExpiry
    cases hs : s.service with
    | none => rfl
    | some im => exact if_neg fun hdue => hnot (Timer.due_iff.mp hdue)

/-! ### Messages -/

theorem checkHolds_iff {m : SampleMessage} :
    checkHolds m = true ↔ ((messageBytes m).map BitVec.toNat).sum % 256 = 0 := by
  simp [checkHolds, List.sum_eq_foldl, List.foldl_map]

theorem measurandOf_eq_some {code : Byte} {x : Measurand} : measurandOf code = some x ↔
    code = 1 ∧ x = .residual ∨ code = 2 ∧ x = .turbidity := by
  unfold measurandOf
  split
  · simp_all [eq_comm]
  · split <;> simp_all [eq_comm]

theorem messageOf_messageBytes (m : SampleMessage) : messageOf (messageBytes m) = m := by
  obtain ⟨start, analyzer, measurand, quality, value, check⟩ := m
  have hvalue : BitVec.ofNat 8 (value.toNat / 256) ++ BitVec.ofNat 8 value.toNat = value := by
    have hlt := value.isLt
    apply BitVec.eq_of_toNat_eq
    rw [BitVec.toNat_append, ← Nat.shiftLeft_add_eq_or_of_lt (BitVec.ofNat 8 value.toNat).isLt, Nat.shiftLeft_eq]
    simp only [BitVec.toNat_ofNat]
    omega
  exact congrArg (SampleMessage.mk start analyzer measurand quality · check) (by simpa [messageBytes, beBytes] using hvalue)

theorem State.takeMessage_rejected {s : State} {im : Image} {m : SampleMessage} {a : Fin 8}
    (ha : m.analyzer.toNat = a.val)
    (hbad : m.start ≠ 0xA5 ∨ (m.measurand ≠ 1 ∧ m.measurand ≠ 2) ∨
      (m.quality ≠ 0 ∧ m.quality ≠ 1) ∨ ((messageBytes m).map BitVec.toNat).sum % 256 ≠ 0) :
    s.takeMessage im m = s.countNotGood im a := by
  unfold State.takeMessage
  rw [eightOf_eq_some.mpr ha]
  cases hx : measurandOf m.measurand with
  | none => rfl
  | some x =>
    cases hq : qualityOf m.quality with
    | none => rfl
    | some q =>
      dsimp only
      split
      next hform =>
        obtain ⟨hstart, hcheck⟩ := hform
        have hmeasurand : m.measurand = 1 ∨ m.measurand = 2 := (measurandOf_eq_some.mp hx).imp And.left And.left
        have hquality : m.quality ≠ 0 ∧ m.quality ≠ 1 := by
          rcases hbad with h | h | h | h
          · exact absurd hstart h
          · exact absurd hmeasurand (not_or.mpr h)
          · exact h
          · exact absurd (checkHolds_iff.mp hcheck) h
        obtain rfl : q = .fault := by
          rw [qualityOf, if_neg hquality.1, if_neg hquality.2] at hq
          split at hq <;> simp_all
        rfl
      next => rfl

theorem State.takeMessage_unknown {s : State} {im : Image} {m : SampleMessage} (h : 7 < m.analyzer.toNat) :
    s.takeMessage im m = s := by
  unfold State.takeMessage
  rw [show eightOf m.analyzer.toNat = none from dif_neg (by omega)]

theorem State.takeMessage_accepted {s : State} {im : Image} {m : SampleMessage} {a : Fin 8} {x : Measurand}
    (hstart : m.start = 0xA5) (ha : m.analyzer.toNat = a.val)
    (hx : m.measurand = 1 ∧ x = .residual ∨ m.measurand = 2 ∧ x = .turbidity) (hq : m.quality = 0 ∨ m.quality = 1)
    (hsum : ((messageBytes m).map BitVec.toNat).sum % 256 = 0) : s.takeMessage im m =
      s.acceptSample im a ⟨min m.value.toNat x.top, x,
        if m.quality = 0 ∧ m.value.toNat ≤ x.top then .good else .suspect⟩ := by
  have hform : m.start = startMark ∧ checkHolds m = true := ⟨hstart, checkHolds_iff.mpr hsum⟩
  unfold State.takeMessage
  rw [eightOf_eq_some.mpr ha, measurandOf_eq_some.mpr hx]
  rcases hq with hq | hq
  · rw [show qualityOf m.quality = some .good by rw [hq]; rfl]
    dsimp only
    rw [if_pos hform, State.judgeSample]
    by_cases htop : x.top < m.value.toNat
    · rw [if_pos htop, Nat.min_eq_right htop.le, if_neg fun h => by omega]
    · rw [if_neg htop, Nat.min_eq_left (by omega), if_pos ⟨hq, by omega⟩]
  · rw [show qualityOf m.quality = some .suspect by rw [hq]; rfl]
    dsimp only
    rw [if_pos hform, State.judgeSample, if_neg fun h => by rw [hq] at h; exact absurd h.1 (by decide)]

theorem State.countNotGood_eq (s : State) (im : Image) (a : Fin 8) :
    s.countNotGood im a = { s with channels := (s.countNotGood im a).channels } :=
  State.forChannels_onChannel_eq _ _ s

theorem State.countNotGood_channel (s : State) (im : Image) (a : Fin 8) (k : Fin 4) :
    (s.countNotGood im a).channel k = if (im.channel k).kind ≠ .none ∧ (im.channel k).analyzer = some a then
      { s.channel k with
        iv := { (s.channel k).iv with received := min 65535 ((s.channel k).iv.received + 1) } }
    else s.channel k := by
  have h := State.forChannels_onChannel (fun _ c => { c with iv := c.iv.countSample false }) (im.mapped_nodup a) s k
  simp only [Image.mem_mapped_iff] at h
  exact h

theorem execAnalyzerMessage_of_service {s : State} {im : Image} (hs : s.service = some im) (m : SampleMessage) :
    exec (.analyzerMessage m) s =
      .next (({ s with intake := s.intake.close } : State).takeMessage im m).settleRestart := by
  show execAnalyzerMessage m s = _
  simp only [execAnalyzerMessage, hs]

theorem State.countRejected_eq (s : State) (im : Image) (number : Option Byte) :
    s.countRejected im number = { s with channels := (s.countRejected im number).channels } := by
  unfold State.countRejected
  split
  · exact s.countNotGood_eq im _
  · rfl

/-- A rejected message is counted on the channels of the number it carries (R35). -/
theorem State.countRejected_channel (s : State) (im : Image) (number : Option Byte) (k : Fin 4) :
    (s.countRejected im number).channel k =
      if (im.channel k).kind ≠ .none ∧ (im.channel k).analyzer.isSome = true ∧
          number = (im.channel k).analyzer.map fun a => BitVec.ofNat 8 a.val then
        { s.channel k with
          iv := { (s.channel k).iv with received := min 65535 ((s.channel k).iv.received + 1) } }
      else s.channel k := by
  have hbyte : ∀ (b : Byte) (a : Fin 8), b = BitVec.ofNat 8 a.val ↔ b.toNat = a.val := fun b a => by
    have := a.isLt
    rw [BitVec.toNat_eq, BitVec.toNat_ofNat, Nat.mod_eq_of_lt (by omega)]
  unfold State.countRejected
  split
  next a ha =>
    obtain ⟨b, rfl, hb⟩ := Option.bind_eq_some_iff.mp ha
    rw [eightOf_eq_some] at hb
    rw [State.countNotGood_channel]
    refine if_congr (and_congr_right fun _ => ?_) rfl rfl
    cases han : (im.channel k).analyzer with
    | none => simp
    | some a' => simp [hbyte, hb, Fin.ext_iff, eq_comm]
  next hnone =>
    refine (if_neg ?_).symm
    rintro ⟨-, hsome, hnumber⟩
    obtain ⟨a, ha⟩ := Option.isSome_iff_exists.mp hsome
    rw [ha, Option.map_some] at hnumber
    rw [hnumber, Option.bind_some, eightOf_eq_some.mpr ((hbyte _ a).mp rfl)] at hnone
    exact Option.some_ne_none _ hnone

/-- Settles O31, part by part. -/
theorem bytesMakeMessages : Obligations.BytesMakeMessages := by
  refine ⟨fun s im m a hs ha hbad => ?_, fun s im m hs hunknown => ?_, fun s im b hs hempty => ?_,
    fun s im b hs hopen hlen => ?_, fun s im b m hs hwhole => ?_, fun s im hs hopen hdue => ?_⟩
  · let u : State := { s with intake := s.intake.close }
    refine ⟨u.countNotGood im a, ?_, u.countNotGood_eq im a, u.countNotGood_channel im a⟩
    rw [execAnalyzerMessage_of_service hs, State.takeMessage_rejected ha hbad]
  · rw [execAnalyzerMessage_of_service hs, State.takeMessage_unknown hunknown]
    rfl
  · have hexec : exec (.receivedByteOnAnz b) s = execReceivedByteOnAnz b s := rfl
    simp only [hexec, execReceivedByteOnAnz, hs, hempty, List.isEmpty_nil, if_true, SampleIntake.push, List.nil_append,
      startMark, startMs, messageGapMs]
    split <;> rfl
  · have hexec : exec (.receivedByteOnAnz b) s = execReceivedByteOnAnz b s := rfl
    simp only [hexec, execReceivedByteOnAnz, hs, List.isEmpty_iff, if_neg hopen, if_pos hlen]
    rfl
  · have hlen : s.intake.buffer.length = 6 := by
      have := congrArg List.length hwhole
      simpa [messageBytes, beBytes] using this
    have hopen : s.intake.buffer ≠ [] := fun h => by rw [h] at hlen; cases hlen
    have hexec : exec (.receivedByteOnAnz b) s = execReceivedByteOnAnz b s := rfl
    rw [execAnalyzerMessage_of_service hs]
    simp only [hexec, execReceivedByteOnAnz, hs, List.isEmpty_iff, if_neg hopen, hlen, lt_irrefl, if_false, hwhole,
      messageOf_messageBytes]
  · have hready : (!s.intake.buffer.isEmpty && s.intake.gapTimer.due) = true := by
      rw [Timer.due_iff.mpr hdue]
      simpa using hopen
    let u : State := { s with intake := s.intake.close }
    refine ⟨u.countRejected im (s.intake.buffer[1]?), ?_, u.countRejected_eq im _, u.countRejected_channel im _⟩
    have hexec : exec .messageGap s = execMessageGap s := rfl
    simp only [hexec, execMessageGap, hs, if_pos hready]
    rfl

end Sys2Proof.Machine
end

section
/-! Samples (Chapter 3, 7.2): what an accepted sample does to the record of its analyzer and to each mapped channel, and the
statements about turbidities and residuals. -/

namespace Sys2Proof.Machine

/-! ### An accepted sample -/

/-- The state after an accepted sample, before the event ends: no message is open, and the record and the mapped channels
have taken it (R37, R172). -/
def State.sampled (s : State) (im : Image) (a : Fin 8) (x : Reading) : State :=
  ({ s with intake := s.intake.close } : State).acceptSample im a x

/-- What an accepted sample does to a mapped channel, before its state is derived (R37, R38). -/
def Channel.sampled (cc : ChannelConfig) (fresh : Bool) (v : Nat) (x : Reading) (c : Channel) : Channel :=
  (c.hearFresh !fresh).offer cc v x

theorem exec_accepted {s : State} {im : Image} {m : SampleMessage} {a : Fin 8} {x : Measurand}
    (hs : s.service = some im) (hstart : m.start = 0xA5) (ha : m.analyzer.toNat = a.val)
    (hx : m.measurand = 1 ∧ x = .residual ∨ m.measurand = 2 ∧ x = .turbidity) (hq : m.quality = 0 ∨ m.quality = 1)
    (hsum : ((messageBytes m).map BitVec.toNat).sum % 256 = 0) : exec (.analyzerMessage m) s =
      .next (s.sampled im a ⟨min m.value.toNat x.top, x,
        if m.quality = 0 ∧ m.value.toNat ≤ x.top then .good else .suspect⟩).settleRestart := by
  rw [execAnalyzerMessage_of_service hs, State.takeMessage_accepted hstart ha hx hq hsum]
  rfl

section Sampled

variable (s : State) (im : Image) (a : Fin 8) (x : Reading)

/-- The cause of the ALARMs of a sample: the fresh report where it ends a spell of staleness (R120, R129). -/
def State.sampleCause : AlarmCause := if (s.intake.records.get a).fresh then .residualSample else .analyzerFresh

/-- The Sample Intake after an accepted sample: its record is FRESH, and no message is open (R37, R172). -/
def State.sampledIntake : SampleIntake :=
  ⟨s.intake.records.set a ⟨some x, true, some (im.station.analyzerTimeout * 1000)⟩, [], none⟩

theorem State.sampled_eq_report : s.sampled im a x = s.report im a (s.sampledIntake im a x)
    (fun k v c => c.sampled (im.channel k) (s.intake.records.get a).fresh v x) (s.sampleCause a) := by
  unfold State.sampled State.acceptSample State.sampleCause
  cases hfresh : (s.intake.records.get a).fresh <;>
    simp only [SampleIntake.close, hfresh, Bool.not_true, Bool.not_false, if_true, Bool.false_eq_true, if_false] <;> rfl

theorem State.sampled_frame : s.sampled im a x = { s with
    intake := (s.sampled im a x).intake, channels := (s.sampled im a x).channels
    faultOut := (s.sampled im a x).faultOut, link := (s.sampled im a x).link
    freeCount := (s.sampled im a x).freeCount } := by
  rw [State.sampled_eq_report]
  exact s.report_eq ..

theorem State.sampled_intake : (s.sampled im a x).intake =
    ⟨s.intake.records.set a ⟨some x, true, some (im.station.analyzerTimeout * 1000)⟩, [], none⟩ := by
  rw [State.sampled_eq_report, State.report_intake]
  rfl

theorem State.sampled_record : (s.sampled im a x).intake.records.get a =
    ⟨some x, true, some (im.station.analyzerTimeout * 1000)⟩ := by
  rw [State.sampled_intake, Eight.get_set_same]

theorem State.sampled_record_other {b : Fin 8} (hb : b ≠ a) :
    (s.sampled im a x).intake.records.get b = s.intake.records.get b := by
  rw [State.sampled_intake, Eight.get_set_other _ _ hb]

theorem State.sampled_channel {k : Fin 4} (hk : (im.channel k).kind ≠ .none) (ha : (im.channel k).analyzer = some a) :
    (s.sampled im a x).channel k = supervise (im.channel k) s.flow.v s.flow.idle (s.channel k)
      ((s.channel k).sampled (im.channel k) (s.intake.records.get a).fresh s.flow.v x) := by
  rw [State.sampled_eq_report]
  exact s.report_channel_mapped im a _ _ _ hk ha

theorem State.sampled_channel_unmapped {k : Fin 4} (h : (im.channel k).kind = .none ∨ (im.channel k).analyzer ≠ some a) :
    (s.sampled im a x).channel k = s.channel k := by
  rw [State.sampled_eq_report]
  exact s.report_channel_unmapped im a _ _ _ h

end Sampled

/-! ### What supervision leaves of a channel -/

/-- Leaving DOSING takes the demand and the grant away, not the queues and the estimates (R30). -/
theorem supervise_estimates (cc : ChannelConfig) (v : Nat) (idle : Bool) (b a : Channel) :
    let d := supervise cc v idle b a
    d.dose.pipeline = a.dose.pipeline ∧ d.dose.tdp = a.dose.tdp ∧ d.dose.deff = a.dose.deff ∧
      d.dose.history = a.dose.history ∧ d.dose.eest = a.dose.eest := by
  unfold supervise
  dsimp only
  split <;> exact ⟨rfl, rfl, rfl, rfl, rfl⟩

theorem supervise_dose_of_not_dosing {cc : ChannelConfig} {v : Nat} {idle : Bool} {b : Channel} (a : Channel)
    (h : b.state ≠ .dosing) : (supervise cc v idle b a).dose = a.dose := by
  simp [supervise, h]

section Offered

variable {cc : ChannelConfig} {v : Nat} {idle fresh : Bool} {c : Channel} {x : Reading}

theorem Channel.hearFresh_eq (wasStale : Bool) (c : Channel) : c.hearFresh wasStale =
    { c with sup := { c.sup with stale := if wasStale then .clear else c.sup.stale } } := by
  cases wasStale <;> rfl

theorem Channel.sampled_sup : (c.sampled cc fresh v x).sup =
    if cc.kind.measures x.measurand = true ∧ x.measurand = .residual
      then { c.sup with stale := if fresh then c.sup.stale else .clear }.judgeResidual cc x.value
      else { c.sup with stale := if fresh then c.sup.stale else .clear } := by
  rw [Channel.sampled, Channel.offer_sup, Channel.hearFresh_eq]
  cases fresh <;> rfl

theorem supervise_sampled_iv : (supervise cc v idle c (c.sampled cc fresh v x)).iv = (c.sampled cc fresh v x).iv := by
  obtain ⟨-, -, hraised, -⟩ := c.offer_changes cc v x (!fresh)
  rw [supervise_iv, Channel.sampled, hraised, Bool.or_false]

/-- A sample moves a channel whose state was derived no further than its recovery, and changes of the feeder only the
inhibit. -/
theorem supervise_sampled (hst : c.state = c.sup.derive idle) : supervise cc v idle c (c.sampled cc fresh v x) =
    { c.sampled cc fresh v x with
      state := (c.sampled cc fresh v x).sup.derive idle
      feeder := { c.feeder with inh := decide ((c.sampled cc fresh v x).sup.derive idle = .locked) } } := by
  obtain ⟨-, hfeeder, hraised, -⟩ := c.offer_changes cc v x (!fresh)
  rw [Channel.sampled, supervise_of_nothing_raised hst hraised, hfeeder, beq_eq_decide]

end Offered

/-! ### Turbidity -/

theorem DoseEngine.appendTurbidity_spec (d : DoseEngine) (v lead n : Nat) :
    (d.appendTurbidity v lead n).pipeline =
      (if 16 ≤ d.pipeline.length then d.pipeline.tail else d.pipeline) ++ [⟨min (2 ^ 48 - 1) (v + lead), n⟩] ∧
    (d.pipeline.length < 16 → (d.appendTurbidity v lead n).tdp = d.tdp) ∧
    (∀ e es, d.pipeline = e :: es → 16 ≤ d.pipeline.length → (d.appendTurbidity v lead n).tdp = some e.turbidity) := by
  unfold DoseEngine.appendTurbidity DoseEngine.makeRoom pipelineCapacity
  cases hp : d.pipeline with
  | nil => simp [hp, dueVolume, top48]
  | cons e es =>
    by_cases hfull : 16 ≤ (e :: es).length
    · simp only [if_pos hfull]
      exact ⟨rfl, fun h => absurd hfull (by omega), fun e' es' h _ => by cases h; rfl⟩
    · simp only [if_neg hfull]
      exact ⟨by rw [hp]; rfl, fun _ => trivial, fun _ _ _ h => absurd h hfull⟩

theorem Channel.sampled_of_good_turbidity {cc : ChannelConfig} {fresh : Bool} {v n : Nat} {c : Channel}
    (hk : cc.kind = .coagulant) : c.sampled cc fresh v ⟨n, .turbidity, .good⟩ = { c with
      sup := { c.sup with stale := if fresh then c.sup.stale else .clear }
      dose := c.dose.appendTurbidity v cc.volume n
      iv := c.iv.countSample true } := by
  rw [Channel.sampled, Channel.hearFresh_eq]
  cases fresh <;> simp [Channel.offer, hk, Kind.measures, Channel.takeTurbidity]

/-- A sample of a measurand that is not the channel's own is only counted (R38). -/
theorem Channel.sampled_of_other {cc : ChannelConfig} {fresh : Bool} {v : Nat} {c : Channel} {x : Reading}
    (hk : cc.kind.measures x.measurand = false) : c.sampled cc fresh v x = { c with
      sup := { c.sup with stale := if fresh then c.sup.stale else .clear }
      iv := c.iv.countSample false } := by
  rw [Channel.sampled, Channel.hearFresh_eq]
  cases fresh <;> simp [Channel.offer, hk]

/-- Settles O28: the accepted sample, read on a coagulant channel, on a chlorine one and on any other. -/
theorem aGoodTurbidityEntersThePipeline : Obligations.AGoodTurbidityEntersThePipeline := by
  intro s im m a hs hstart ha hmeasurand hquality hvalue hsum
  have hexec := exec_accepted hs hstart ha (.inr ⟨hmeasurand, rfl⟩) (.inl hquality) hsum
  rw [show Measurand.turbidity.top = 10000 from rfl, if_pos ⟨hquality, hvalue⟩, Nat.min_eq_left hvalue] at hexec
  refine ⟨_, hexec, s.sampled_frame im a _, ?_, ?_, s.sampled_record im a _, fun b hb => s.sampled_record_other im a _ hb,
    fun k => ⟨fun hk hk' => ?_, fun hk hk' => ?_, fun hk hk' hder => ?_, s.sampled_channel_unmapped im a _⟩⟩
  · rw [State.sampled_intake]
  · rw [State.sampled_intake]
  · have hne : (im.channel k).kind ≠ .none := by rw [hk]; nofun
    have hsampled := Channel.sampled_of_good_turbidity (fresh := (s.intake.records.get a).fresh) (v := s.flow.v)
      (n := m.value.toNat) (c := s.channel k) hk
    obtain ⟨hpipeline, htdp, hdeff, -, -⟩ := supervise_estimates (im.channel k) s.flow.v s.flow.idle (s.channel k)
      ((s.channel k).sampled (im.channel k) (s.intake.records.get a).fresh s.flow.v ⟨m.value.toNat, .turbidity, .good⟩)
    obtain ⟨hentered, hkept, hmade⟩ :=
      (s.channel k).dose.appendTurbidity_spec s.flow.v (im.channel k).volume m.value.toNat
    rw [State.sampled_channel s im a _ hne hk', supervise_sampled_iv, hpipeline, htdp, hdeff]
    refine ⟨?_, ?_, ?_, ?_, ?_, fun hder => ?_⟩
    · rw [hsampled]; exact hentered
    · rw [hsampled]; exact hkept
    · rw [hsampled]; exact hmade
    · rw [hsampled, DoseEngine.appendTurbidity_changes]
    · rw [hsampled]; rfl
    · rw [supervise_sampled (hder.state_eq hs hne), hsampled]
      exact ⟨(hder.state_eq hs hne).symm, DoseEngine.appendTurbidity_changes ..⟩
  · have hne : (im.channel k).kind ≠ .none := by rw [hk]; nofun
    have hsampled := Channel.sampled_of_other (cc := im.channel k) (fresh := (s.intake.records.get a).fresh)
      (v := s.flow.v) (c := s.channel k) (x := ⟨m.value.toNat, .turbidity, .good⟩) (by rw [hk]; rfl)
    rw [State.sampled_channel s im a _ hne hk', supervise_sampled_iv]
    refine ⟨by rw [hsampled]; rfl, fun hder => ?_⟩
    rw [supervise_sampled (hder.state_eq hs hne), hsampled]
    exact ⟨(hder.state_eq hs hne).symm, rfl⟩
  · rw [State.sampled_channel s im a _ hk hk', supervise_sampled (hder.state_eq hs hk)]

/-! ### Residuals -/

/-- What leaves the history by pruning was covered by its successor (R50). -/
theorem pruneHistory_gone_due (v lag : Nat) (h : List HistEntry) : ∃ gone, h = gone ++ pruneHistory v lag h ∧
    ∀ e ∈ (gone ++ (pruneHistory v lag h).take 1).tail, lag ≤ v ∧ e.mark ≤ v - lag := by
  induction h with
  | nil => exact ⟨[], rfl, by simp [pruneHistory]⟩
  | cons x t ih =>
    cases t with
    | nil => exact ⟨[], rfl, by simp [pruneHistory]⟩
    | cons y rest =>
      by_cases hdue : lag ≤ v ∧ y.mark ≤ v - lag
      · rw [show pruneHistory v lag (x :: y :: rest) = pruneHistory v lag (y :: rest) from if_pos hdue]
        obtain ⟨gone, hsplit, hgone⟩ := ih
        have hhead : gone ++ (pruneHistory v lag (y :: rest)).take 1 =
            y :: (gone ++ (pruneHistory v lag (y :: rest)).take 1).tail := by
          cases gone with
          | nil => rw [List.nil_append] at hsplit; rw [← hsplit]; rfl
          | cons g gone => rw [List.cons_append] at hsplit; cases (List.cons.inj hsplit).1; rfl
        refine ⟨x :: gone, by rw [List.cons_append, ← hsplit], fun e he => ?_⟩
        rw [List.cons_append, List.tail_cons, hhead] at he
        rcases List.mem_cons.mp he with rfl | he
        · exact hdue
        · exact hgone e he
      · rw [show pruneHistory v lag (x :: y :: rest) = x :: y :: rest from if_neg hdue]
        exact ⟨[], rfl, by simp⟩

/-- Pruning leaves the covering entry (R50, R51). -/
theorem covering_pruneHistory {v lag : Nat} (hlag : lag ≤ v) (h : List HistEntry) :
    covering (v - lag) (pruneHistory v lag h) = covering (v - lag) h := by
  induction h with
  | nil => rfl
  | cons x t ih =>
    cases t with
    | nil => rfl
    | cons y rest =>
      by_cases hdue : y.mark ≤ v - lag
      · rw [show pruneHistory v lag (x :: y :: rest) = pruneHistory v lag (y :: rest) from if_pos ⟨hlag, hdue⟩, ih]
        unfold covering
        rw [List.filter_cons (x := x)]
        split
        · rw [List.filter_cons_of_pos (by simpa using hdue), List.getLast?_cons_cons]
        · rfl
      · rw [show pruneHistory v lag (x :: y :: rest) = x :: y :: rest from if_neg fun hb => hdue hb.2]

theorem correctEstimate_eq (eest cw dose residual : Nat) : (correctEstimate eest cw dose residual : Int) =
    max 0 (min (cw : Int) (eest + (((dose - residual : Nat) : Int) - eest).tdiv 4)) := by
  unfold correctEstimate
  dsimp only
  generalize (((dose - residual : Nat) : Int) - eest).tdiv 4 = delta
  omega

theorem coveringDose_eq_some {v lag n : Nat} {h : List HistEntry} : coveringDose v lag h = some n ↔
    lag ≤ v ∧ ∃ older e, h.filter (fun e => decide (e.mark ≤ v - lag)) = older ++ [e] ∧ e.merged = false ∧ e.dose = n := by
  unfold coveringDose covering
  by_cases hlag : v < lag
  · rw [if_pos hlag]
    exact ⟨nofun, fun h => absurd h.1 (by omega)⟩
  · rw [if_neg hlag]
    have hlast : ∀ older e, h.filter (fun e => decide (e.mark ≤ v - lag)) = older ++ [e] →
        (h.filter fun e => decide (e.mark ≤ v - lag)).getLast? = some e := fun older e he => by
      rw [he, List.getLast?_concat]
    cases hc : (h.filter fun e => decide (e.mark ≤ v - lag)).getLast? with
    | none => exact ⟨nofun, fun ⟨_, older, e, he, _⟩ => by cases hc.symm.trans (hlast older e he)⟩
    | some e =>
      dsimp only
      cases hm : e.merged with
      | true =>
        rw [if_pos rfl]
        refine ⟨nofun, fun ⟨_, older, e', he, hm', _⟩ => ?_⟩
        obtain rfl := Option.some.inj (hc.symm.trans (hlast older e' he))
        exact Bool.noConfusion (hm.symm.trans hm')
      | false =>
        rw [if_neg (by simp), Option.some.injEq]
        obtain ⟨older, he⟩ := List.getLast?_eq_some_iff.mp hc
        refine ⟨fun hdose => ⟨by omega, older, e, he, hm, hdose⟩, fun ⟨_, older', e', he', _, hdose⟩ => ?_⟩
        obtain rfl := Option.some.inj (hc.symm.trans (hlast older' e' he'))
        exact hdose

/-- The covering dose is the same before and after pruning (R50, R51). -/
theorem coveringDose_pruneHistory (v lag : Nat) (h : List HistEntry) :
    coveringDose v lag (pruneHistory v lag h) = coveringDose v lag h := by
  unfold coveringDose
  split
  · rfl
  · rw [covering_pruneHistory (by omega)]

/-- The lookup, by whether a dose covers the sample (R51, R52, R55). -/
theorem Channel.lookup_of_covered {cc : ChannelConfig} {v r n : Nat} {c : Channel}
    (h : coveringDose v cc.volume c.dose.history = some n) : c.lookup cc v r = { c with
      dose := { c.dose with
        history := pruneHistory v cc.volume c.dose.history, eest := correctEstimate c.dose.eest c.dose.cw n r } } := by
  unfold Channel.lookup
  dsimp only
  rw [coveringDose_pruneHistory, h]

theorem Channel.lookup_of_uncovered {cc : ChannelConfig} {v r : Nat} {c : Channel}
    (h : coveringDose v cc.volume c.dose.history = none) : c.lookup cc v r = { c with
      dose := { c.dose with history := pruneHistory v cc.volume c.dose.history }
      iv := { c.iv with unusable := min 65535 (c.iv.unusable + 1) } } := by
  unfold Channel.lookup
  dsimp only
  rw [coveringDose_pruneHistory, h]
  rfl

theorem Channel.lookup_history {cc : ChannelConfig} {v r : Nat} {c : Channel} :
    (c.lookup cc v r).dose.history = pruneHistory v cc.volume c.dose.history := by
  cases h : coveringDose v cc.volume c.dose.history with
  | none => rw [Channel.lookup_of_uncovered h]
  | some n => rw [Channel.lookup_of_covered h]

/-- The lookup does not read the conditions. -/
theorem Channel.lookup_withSup (cc : ChannelConfig) (v r : Nat) (c : Channel) (p : Supervisor) (i : Interval) :
    { c with sup := p, iv := i }.lookup cc v r = { { c with iv := i }.lookup cc v r with sup := p } := by
  unfold Channel.lookup
  dsimp only
  split <;> rfl

/-- A residual on a chlorine channel: counted, looked up when GOOD in DOSING, judged and seen (R38, R53, R55, R114). -/
theorem Channel.sampled_of_residual {cc : ChannelConfig} {fresh : Bool} {v r : Nat} {q : Quality} {c : Channel}
    (hk : cc.kind = .chlorine) : c.sampled cc fresh v ⟨r, .residual, q⟩ =
      let d := if q = .good ∧ c.state = .dosing
        then { c with iv := c.iv.countSample (decide (q = Quality.good)) }.lookup cc v r
        else { c with iv := c.iv.countSample (decide (q = Quality.good)) }
      { d with
        sup := { c.sup with stale := if fresh then c.sup.stale else .clear }.judgeResidual cc r
        iv := d.iv.seeResidual r } := by
  rw [Channel.sampled, Channel.hearFresh_eq]
  simp only [Channel.offer, hk, Kind.measures, if_true, Bool.true_and, Channel.takeResidual, beq_eq_decide]
  by_cases h : q = .good ∧ c.state = .dosing
  · rw [if_pos h, if_pos h, Channel.lookup_withSup]
    cases fresh <;> rfl
  · rw [if_neg h, if_neg h]
    cases fresh <;> rfl

section Residual

variable {cc : ChannelConfig} {fresh : Bool} {v r : Nat} {q : Quality} {c : Channel}

/-- The extremes of the interval take the residual (R146). -/
theorem Channel.sampled_extremes (hk : cc.kind = .chlorine) :
    let d := c.sampled cc fresh v ⟨r, .residual, q⟩
    d.iv.minResidual = some (c.iv.minResidual.elim r fun x => min x r) ∧
      d.iv.maxResidual = some (c.iv.maxResidual.elim r fun x => max x r) := by
  have hiv : ∀ i : Interval, i.minResidual = c.iv.minResidual → i.maxResidual = c.iv.maxResidual →
      (i.seeResidual r).minResidual = some (c.iv.minResidual.elim r fun x => min x r) ∧
        (i.seeResidual r).maxResidual = some (c.iv.maxResidual.elim r fun x => max x r) := fun i hmin hmax => by
    simp only [Interval.seeResidual, hmin, hmax]
    constructor
    · cases c.iv.minResidual <;> rfl
    · cases c.iv.maxResidual <;> rfl
  rw [Channel.sampled_of_residual hk]
  dsimp only
  split
  · rw [Channel.lookup_changes]
    exact hiv _ rfl rfl
  · exact hiv _ rfl rfl

/-- A residual that is not GOOD, or not in DOSING, makes no lookup (R53). -/
theorem Channel.sampled_without_lookup (hk : cc.kind = .chlorine) (h : ¬ (q = .good ∧ c.state = .dosing)) :
    (c.sampled cc fresh v ⟨r, .residual, q⟩).dose = c.dose ∧
      (c.sampled cc fresh v ⟨r, .residual, q⟩).iv.unusable = c.iv.unusable := by
  rw [Channel.sampled_of_residual hk, if_neg h]
  exact ⟨rfl, rfl⟩

theorem Channel.sampled_of_covered (hk : cc.kind = .chlorine) (hst : c.state = .dosing) {n : Nat}
    (h : coveringDose v cc.volume c.dose.history = some n) :
    (c.sampled cc fresh v ⟨r, .residual, .good⟩).dose.eest = correctEstimate c.dose.eest c.dose.cw n r ∧
      (c.sampled cc fresh v ⟨r, .residual, .good⟩).iv.unusable = c.iv.unusable := by
  rw [Channel.sampled_of_residual hk, if_pos ⟨rfl, hst⟩, Channel.lookup_of_covered
    (c := { c with iv := c.iv.countSample (decide (Quality.good = Quality.good)) }) h]
  exact ⟨rfl, rfl⟩

theorem Channel.sampled_of_uncovered (hk : cc.kind = .chlorine) (hst : c.state = .dosing)
    (h : coveringDose v cc.volume c.dose.history = none) :
    (c.sampled cc fresh v ⟨r, .residual, .good⟩).dose.eest = c.dose.eest ∧
      (c.sampled cc fresh v ⟨r, .residual, .good⟩).iv.unusable = min 65535 (c.iv.unusable + 1) := by
  rw [Channel.sampled_of_residual hk, if_pos ⟨rfl, hst⟩, Channel.lookup_of_uncovered
    (c := { c with iv := c.iv.countSample (decide (Quality.good = Quality.good)) }) h]
  exact ⟨rfl, rfl⟩

theorem Channel.sampled_history (hk : cc.kind = .chlorine) (hst : c.state = .dosing) :
    (c.sampled cc fresh v ⟨r, .residual, .good⟩).dose.history = pruneHistory v cc.volume c.dose.history := by
  rw [Channel.sampled_of_residual hk, if_pos ⟨rfl, hst⟩]
  exact Channel.lookup_history

theorem Channel.sampled_lastResidual (hk : cc.kind = .chlorine) :
    (c.sampled cc fresh v ⟨r, .residual, q⟩).sup.lastResidual = some r := by
  rw [Channel.sampled_of_residual hk]; rfl

end Residual

/-- Settles O29: the sample's supervised channel, with the lookup where the channel is in DOSING. -/
theorem aGoodResidualCorrectsTheEstimate : Obligations.AGoodResidualCorrectsTheEstimate := by
  intro s im m a k hs hstart ha hmeasurand hquality hvalue hsum hk hka
  have hexec := exec_accepted hs hstart ha (.inl ⟨hmeasurand, rfl⟩) (.inl hquality) hsum
  rw [show Measurand.residual.top = 1000 from rfl, if_pos ⟨hquality, hvalue⟩, Nat.min_eq_left hvalue] at hexec
  have hne : (im.channel k).kind ≠ .none := by rw [hk]; nofun
  refine ⟨_, hexec, ?_⟩
  rw [State.sampled_channel s im a _ hne hka]
  generalize (s.intake.records.get a).fresh = fresh
  generalize m.value.toNat = r
  obtain ⟨-, -, -, hiv, -, hdose⟩ := (s.channel k).offer_changes (im.channel k) s.flow.v ⟨r, .residual, .good⟩ (!fresh)
  obtain ⟨-, -, -, hhistory, heest⟩ := supervise_estimates (im.channel k) s.flow.v s.flow.idle (s.channel k)
    ((s.channel k).sampled (im.channel k) fresh s.flow.v ⟨r, .residual, .good⟩)
  obtain ⟨hmin, hmax⟩ := Channel.sampled_extremes (fresh := fresh) (v := s.flow.v) (r := r) (q := .good)
    (c := s.channel k) hk
  rw [hk] at hiv
  dsimp only
  rw [hhistory, heest, supervise_sampled_iv]
  refine ⟨Channel.sampled_lastResidual hk, hiv, hmin, hmax, fun hder => ?_, fun hnot => ?_, fun hdosing => ⟨fun hder => ?_, ?_⟩,
    fun hdosing hun => ?_, fun hdosing hlag older e hcover hmerged => ?_⟩
  · rw [supervise_sampled (hder.state_eq hs hne)]
  · rw [supervise_dose_of_not_dosing _ hnot]
    exact Channel.sampled_without_lookup hk fun h => hnot h.2
  · rw [supervise_sampled (hder.state_eq hs hne)]
    exact hdose rfl
  · rw [Channel.sampled_history hk hdosing]
    obtain ⟨gone, hsplit, hgone⟩ := pruneHistory_gone_due s.flow.v (im.channel k).volume (s.channel k).dose.history
    obtain ⟨-, -, hsome, hstays, -⟩ := pruneHistory_spec s.flow.v (im.channel k).volume (s.channel k).dose.history
    exact ⟨gone, hsplit, hsome, hgone, hstays⟩
  · refine Channel.sampled_of_uncovered hk hdosing (Option.eq_none_iff_forall_ne_some.mpr fun n hn => hun ?_)
    obtain ⟨hlag, older, e, hcover, hmerged, -⟩ := coveringDose_eq_some.mp hn
    exact ⟨hlag, older, e, hcover, hmerged⟩
  · obtain ⟨hest, hunusable⟩ := Channel.sampled_of_covered (fresh := fresh) (r := r) hk hdosing
      (coveringDose_eq_some.mpr ⟨hlag, older, e, hcover, hmerged, rfl⟩)
    exact ⟨hunusable, by rw [hest, correctEstimate_eq]⟩

/-! ### The conditions judged -/

theorem judgeCondition_of_disabled (beyond back : Bool) (c : Cond) (t : Timer) :
    judgeCondition 0 beyond back c t = (c, t) := rfl

/-- One condition and its timer after a sample, row by row of R114. -/
theorem judgeCondition_spec {time : Nat} (htime : 0 < time) {B K : Prop} [Decidable B] [Decidable K] (c : Cond)
    (t : Timer) :
    let j := judgeCondition time (decide B) (decide K) c t
    (c = .clear → B → j.1 = .alert ∧ j.2 = some (time * 1000)) ∧
    (c = .clear → ¬ B → j.1 = .clear ∧ j.2 = t) ∧
    (c = .alert → B → j.1 = .alert ∧ j.2 = t) ∧
    (c = .alert → ¬ B → j.1 = .clear ∧ j.2 = none) ∧
    (c = .active → K → j.1 = .clear ∧ j.2 = t) ∧
    (c = .active → ¬ K → j.1 = .active ∧ j.2 = t) := by
  unfold judgeCondition
  rw [if_neg htime.ne']
  refine ⟨?_, ?_, ?_, ?_, ?_, ?_⟩ <;> rintro rfl h <;> simp [h, startS]

/-- The state after a sample, with the lockout record that goes with it. -/
theorem supervise_sampled_residual_sup {cc : ChannelConfig} {fresh idle : Bool} {v r : Nat} {q : Quality} {c : Channel}
    (hk : cc.kind = .chlorine) : ∃ l, (supervise cc v idle c (c.sampled cc fresh v ⟨r, .residual, q⟩)).sup =
      { { c.sup with stale := if fresh then c.sup.stale else .clear }.judgeResidual cc r with lockout := l } :=
  ⟨_, by rw [supervise_conditions, Channel.sampled_of_residual hk]⟩

/-- Settles O30, condition by condition. -/
theorem aResidualJudgesTheConditions : Obligations.AResidualJudgesTheConditions := by
  intro s im m a k hs hstart ha hmeasurand hquality hsum hk hka
  have hexec := exec_accepted hs hstart ha (.inl ⟨hmeasurand, rfl⟩) hquality hsum
  rw [show Measurand.residual.top = 1000 from rfl] at hexec
  have hne : (im.channel k).kind ≠ .none := by rw [hk]; nofun
  refine ⟨_, hexec, ?_⟩
  rw [State.sampled_channel s im a _ hne hka]
  generalize (s.intake.records.get a).fresh = fresh
  have hbad : m.quality = 1 ∨ 1000 < m.value.toNat →
      (if m.quality = 0 ∧ m.value.toNat ≤ 1000 then Quality.good else .suspect) = .suspect := fun h =>
    if_neg fun hboth => h.elim (fun hq => by rw [hq] at hboth; exact absurd hboth.1 (by decide)) (by omega)
  generalize min m.value.toNat 1000 = r
  generalize (if m.quality = 0 ∧ m.value.toNat ≤ 1000 then Quality.good else .suspect) = q at *
  obtain ⟨-, -, -, hiv, -, hdose⟩ := (s.channel k).offer_changes (im.channel k) s.flow.v ⟨r, .residual, q⟩ (!fresh)
  obtain ⟨hmin, hmax⟩ := Channel.sampled_extremes (fresh := fresh) (v := s.flow.v) (r := r) (q := q)
    (c := s.channel k) hk
  obtain ⟨l, hsup⟩ := supervise_sampled_residual_sup (idle := s.flow.idle) (fresh := fresh) (v := s.flow.v) (r := r)
    (q := q) (c := s.channel k) hk
  have hstate := supervise_state (im.channel k) s.flow.v s.flow.idle (s.channel k)
    ((s.channel k).sampled (im.channel k) fresh s.flow.v ⟨r, .residual, q⟩)
  dsimp only
  rw [supervise_sampled_iv, hsup]
  refine ⟨rfl, fun h => ?_, fun h => ?_, fun h => ?_, fun h => ?_, fun h => ?_, fun h => ?_, rfl, rfl, rfl, ?_, ?_,
    fun hder => ⟨?_, ?_, ?_, fun h => ?_⟩⟩
  · simp [Supervisor.judgeResidual, h, judgeCondition_of_disabled]
  · simp [Supervisor.judgeResidual, h, judgeCondition_of_disabled]
  · simp [Supervisor.judgeResidual, h, judgeCondition_of_disabled]
  · obtain ⟨hstarts, hclear, hruns, hends, hback, hstays⟩ := judgeCondition_spec h (B := r ≤ (im.channel k).lowLimit)
      (K := (im.channel k).lowRecovery ≤ r) (s.channel k).sup.low (s.channel k).sup.tL
    exact ⟨hstarts, fun hc hb => hclear hc (not_le.mpr hb), hruns, fun hc hb => hends hc (not_le.mpr hb), hback,
      fun hc hb => hstays hc (not_le.mpr hb)⟩
  · obtain ⟨hstarts, hclear, hruns, hends, hback, hstays⟩ := judgeCondition_spec h (B := (im.channel k).highLimit ≤ r)
      (K := r ≤ (im.channel k).highRecovery) (s.channel k).sup.high (s.channel k).sup.tH
    exact ⟨hstarts, fun hc hb => hclear hc (not_le.mpr hb), hruns, fun hc hb => hends hc (not_le.mpr hb), hback,
      fun hc hb => hstays hc (not_le.mpr hb)⟩
  · obtain ⟨hstarts, hclear, hruns, hends, -, hstays⟩ := judgeCondition_spec h (B := (im.channel k).hhLimit ≤ r)
      (K := False) (s.channel k).sup.highHigh (s.channel k).sup.tHH
    exact ⟨hstarts, fun hc hb => hclear hc (not_le.mpr hb), hruns, fun hc hb => hends hc (not_le.mpr hb),
      fun hc => hstays hc not_false⟩
  · rw [hstate, Channel.sampled_of_residual hk]
    rfl
  · rw [← hmin, ← hmax]
    change ((s.channel k).sampled (im.channel k) fresh s.flow.v ⟨r, .residual, q⟩).iv = _ at hiv
    have hgood := congrArg Interval.good hiv
    rw [hgood]
    exact hiv
  · have hlockout := congrArg Supervisor.lockout hsup
    rw [supervise_sampled (hder.state_eq hs hne), Channel.sampled_of_residual hk] at hlockout
    rw [← (show (s.channel k).sup.lockout = l from hlockout)]
    rfl
  · rw [supervise_sampled (hder.state_eq hs hne)]
  · rw [supervise_sampled (hder.state_eq hs hne)]
    exact hdose rfl
  · obtain ⟨hsame, hunusable⟩ := Channel.sampled_without_lookup (fresh := fresh) (v := s.flow.v) (r := r) (q := q)
      (c := s.channel k) hk fun hb => by rw [hbad h] at hb; cases hb.1
    rw [supervise_sampled (hder.state_eq hs hne)]
    exact ⟨hsame, (congrArg Interval.good hiv).trans (by rw [hbad h]; simp), hunusable⟩

/-! ### A sample offered to every mapped channel -/

theorem crossedActive_of_not_raised {b a : Cond} (h : b ≠ .active → a ≠ .active) :
    crossedActive b a = true ↔ b = .active ∧ a ≠ .active := by
  by_cases hb : b = .active <;> simp [crossedActive, hb, h]

/-- An event that raises no condition and ends neither lockout condition nor FEEDER FAULT calls for an ALARM exactly where
LOW RESIDUAL, HIGH RESIDUAL or ANALYZER STALE ends (R129). -/
theorem alarmCalled_of_recovery {b a : Channel} {idle : Bool} (hb : b.state = b.sup.derive idle)
    (ha : a.state = a.sup.derive idle) (hraised : anyBecameActive b.sup a.sup = false)
    (hhh : b.sup.highHigh = .active → a.sup.highHigh = .active) (hro : a.sup.runOn = b.sup.runOn)
    (hff : a.sup.feederFault = b.sup.feederFault) : alarmCalled b a = true ↔
      b.sup.low = .active ∧ a.sup.low ≠ .active ∨ b.sup.high = .active ∧ a.sup.high ≠ .active ∨
        b.sup.stale = .active ∧ a.sup.stale ≠ .active := by
  rw [Bool.eq_false_iff, ne_eq, anyBecameActive_iff] at hraised
  push Not at hraised
  obtain ⟨hl, hh, hlocks, -, -, hs⟩ := hraised
  have hlow := crossedActive_of_not_raised hl
  have hhigh := crossedActive_of_not_raised hh
  have hstale := crossedActive_of_not_raised hs
  have hlock : crossedActive b.sup.highHigh a.sup.highHigh = false := by
    rw [Bool.eq_false_iff, ne_eq, crossedActive_of_not_raised hlocks]
    exact fun h => h.2 (hhh h.1)
  have hstate : b.state ≠ a.state → b.sup.high = .active ∧ a.sup.high ≠ .active := fun hne => by
    by_contra hsame
    refine hne ?_
    have hsup : a.sup.high = .active ↔ b.sup.high = .active :=
      ⟨fun ha => by_contra fun hb => hh hb ha, fun hb => by_contra fun ha => hsame ⟨hb, ha⟩⟩
    have hsup' : a.sup.highHigh = .active ↔ b.sup.highHigh = .active :=
      ⟨fun ha => by_contra fun hb => hlocks hb ha, hhh⟩
    rw [ha, hb, Supervisor.derive_eq, Supervisor.derive_eq, hro, hff]
    simp only [hsup, hsup']
  simp only [alarmCalled, conditionsCrossed, Bool.or_eq_true, hlow, hhigh, hstale, hlock, hro, hff, crossedActive_self,
    Bool.false_eq_true, or_false, Bool.and_eq_true, bne_iff_ne]
  exact ⟨fun h => h.elim (fun h => or_assoc.mp h) fun h => .inr (.inl (hstate h.1)), fun h => .inl (or_assoc.mpr h)⟩

theorem Kind.measures_iff {kind : Kind} {x : Measurand} : kind.measures x = true ↔
    (x = .residual ∧ kind = .chlorine) ∨ (x = .turbidity ∧ kind = .coagulant) := by
  cases kind <;> cases x <;> simp [Kind.measures]

theorem Measurand.top_eq (x : Measurand) : x.top = if x = .residual then 1000 else 10000 := by cases x <;> rfl

section Offered

variable {cc : ChannelConfig} {fresh idle : Bool} {v : Nat} {c : Channel} {x : Reading}

theorem Channel.sampled_stale : (c.sampled cc fresh v x).sup.stale = if fresh then c.sup.stale else .clear := by
  rw [Channel.sampled_sup]
  split <;> rfl

/-- A sample that is not GOOD enters nothing and makes no lookup (R38, R53). -/
theorem Channel.sampled_of_suspect (hx : x.quality = .suspect) :
    (c.sampled cc fresh v x).dose = c.dose ∧ (c.sampled cc fresh v x).iv.unusable = c.iv.unusable := by
  obtain ⟨r, m, q⟩ := x
  obtain rfl : q = .suspect := hx
  cases hown : cc.kind.measures m with
  | false =>
    rw [Channel.sampled_of_other hown]
    exact ⟨rfl, rfl⟩
  | true =>
    rcases Kind.measures_iff.mp hown with ⟨rfl, hk⟩ | ⟨rfl, hk⟩
    · exact Channel.sampled_without_lookup hk nofun
    · rw [Channel.sampled, Channel.hearFresh_eq]
      cases fresh <;> simp [Channel.offer, hk, Kind.measures, Channel.takeTurbidity, Interval.countSample]

/-- A sample calls for an ALARM exactly where it ends a condition (R120, R129). -/
theorem alarmCalled_sampled (hst : c.state = c.sup.derive idle) :
    let d := supervise cc v idle c (c.sampled cc fresh v x)
    alarmCalled c d = true ↔ c.sup.low = .active ∧ d.sup.low ≠ .active ∨ c.sup.high = .active ∧ d.sup.high ≠ .active ∨
      c.sup.stale = .active ∧ d.sup.stale ≠ .active := by
  obtain ⟨-, -, hraised, -⟩ := c.offer_changes cc v x (!fresh)
  dsimp only
  rw [supervise_sampled hst]
  refine alarmCalled_of_recovery hst rfl hraised (fun h => ?_) ?_ ?_ <;> dsimp only <;> rw [Channel.sampled_sup] <;> split
  · simp only [Supervisor.judgeResidual, h, judgeCondition]
    split <;> rfl
  · exact h
  all_goals rfl

end Offered

/-- Settles O60: the accepted sample on the mapped channels, and its ALARMs. -/
theorem aSampleIsOfferedToItsChannels : Obligations.ASampleIsOfferedToItsChannels := by
  intro s im m a x hs hstart ha hx hquality hsum hder
  have hexec := exec_accepted hs hstart ha hx hquality hsum
  rw [Measurand.top_eq] at hexec
  refine ⟨_, hexec, ?_, s.sampled_record im a _, fun b hb => s.sampled_record_other im a _ hb,
    fun k hun => s.sampled_channel_unmapped im a _ hun, fun k hk hka => ?_, fun ks hsort hm => ?_⟩
  · have hframe := s.sampled_frame im a ⟨min m.value.toNat (if x = .residual then 1000 else 10000), x,
      if m.quality = 0 ∧ m.value.toNat ≤ (if x = .residual then 1000 else 10000) then .good else .suspect⟩
    rw [State.sampled_intake] at hframe ⊢
    exact hframe
  · have hst := hder.state_eq hs hk
    dsimp only
    rw [State.sampled_channel s im a _ hk hka, supervise_sampled hst]
    have hown := Kind.measures_iff (kind := (im.channel k).kind) (x := x)
    have hgood : (if m.quality = 0 ∧ m.value.toNat ≤ (if x = .residual then 1000 else 10000) then Quality.good
        else .suspect) = .good ↔ m.quality = 0 ∧ m.value.toNat ≤ (if x = .residual then 1000 else 10000) := by
      split <;> simp_all
    generalize (s.intake.records.get a).fresh = fresh
    generalize (min m.value.toNat (if x = .residual then 1000 else 10000)) = r
    generalize (if m.quality = 0 ∧ m.value.toNat ≤ (if x = .residual then 1000 else 10000) then Quality.good
      else .suspect) = q at *
    obtain ⟨-, -, -, hiv, hturbidity, hresidual⟩ :=
      (s.channel k).offer_changes (im.channel k) s.flow.v ⟨r, x, q⟩ (!fresh)
    have hother : ¬ ((x = .residual ∧ (im.channel k).kind = .chlorine) ∨
        (x = .turbidity ∧ (im.channel k).kind = .coagulant)) →
        (s.channel k).sampled (im.channel k) fresh s.flow.v ⟨r, x, q⟩ = { s.channel k with
          sup := { (s.channel k).sup with stale := if fresh then (s.channel k).sup.stale else .clear }
          iv := (s.channel k).iv.countSample false } := fun hnot =>
      Channel.sampled_of_other (Bool.eq_false_iff.mpr (mt hown.mp hnot))
    have hstale := Channel.sampled_stale (cc := im.channel k) (fresh := fresh) (v := s.flow.v) (c := s.channel k)
      (x := ⟨r, x, q⟩)
    refine ⟨rfl, hiv.trans ?_, fun h => ?_, fun h => (hturbidity h).1, hresidual, hstale, fun h => ?_, fun h => ?_,
      fun _ h => ?_, fun h hx => ?_⟩
    · dsimp only
      congr 1
      exact if_congr (by rw [Bool.and_eq_true, hown, beq_iff_eq, hgood]) rfl rfl
    · by_cases hx : x = .turbidity
      · exact (hturbidity hx).2
      · rw [hother (h.resolve_right hx)]
        exact ⟨rfl, rfl, rfl⟩
    · rw [hother h]
      exact ⟨rfl, hst.symm⟩
    · by_cases hq : q = .good
      · rw [hother (h.resolve_right fun hnot => hnot (hgood.mp hq))]
        exact ⟨rfl, rfl⟩
      · exact Channel.sampled_of_suspect (by cases q <;> simp_all)
    · have hsup := Channel.sampled_sup (cc := im.channel k) (fresh := fresh) (v := s.flow.v) (c := s.channel k)
        (x := ⟨r, x, q⟩)
      rw [if_neg fun hb => by rw [h] at hb; cases hb.2] at hsup
      rw [hsup]
      exact ⟨rfl, hst.symm⟩
    · have hsup := Channel.sampled_sup (cc := im.channel k) (fresh := fresh) (v := s.flow.v) (c := s.channel k)
        (x := ⟨r, x, q⟩)
      rw [if_pos ⟨hown.mpr h, hx⟩] at hsup
      rw [hsup]
      rfl
  · dsimp only
    rw [State.sampled_eq_report]
    refine s.report_queued im a _ _ _ hsort hm fun k hk hka => ?_
    rw [State.report_channel_mapped _ _ _ _ _ _ hk hka]
    exact alarmCalled_sampled (hder.state_eq hs hk)

end Sys2Proof.Machine
end

section
/-! Frames received (Chapters 4 and 10): what a valid frame from another station does before its dispatch, announcements and
the tables, rejected bytes, and conflict frames. -/

namespace Sys2Proof.Machine

/-! ### A frame that has been heard -/

theorem State.hear_of_isolated {s : State} (h : s.stn = .isolated) (hline : s.link.line ≠ .idle) : s.hear = { s with
    stn := .join
    peer := { s.peer with silence := 0, heard := true, joinCount := 0 }
    link := s.link.enqueue (Entry.fresh (.alarm .isolationEnded) false) } := by
  unfold State.hear
  dsimp only
  rw [if_pos h]
  exact State.enqueue_of_driven _ _ hline

theorem State.hear_of_not_isolated {s : State} (h : s.stn ≠ .isolated) :
    s.hear = { s with peer := { s.peer with silence := 0, heard := true } } := by
  unfold State.hear
  dsimp only
  rw [if_neg h]

theorem State.heard_of_isolated {s : State} (h : s.stn = .isolated) : s.heard = { s with
    stn := .join
    peer := { s.peer with silence := 0, heard := true, joinCount := 0 }
    recs := { s.recs with accepted := s.recs.accepted + 1 }
    link := s.link.lineDriven.enqueue (Entry.fresh (.alarm .isolationEnded) false) } :=
  State.hear_of_isolated (s := s.countAccepted) h nofun

theorem State.heard_of_not_isolated {s : State} (h : s.stn ≠ .isolated) : s.heard = { s with
    peer := { s.peer with silence := 0, heard := true }
    recs := { s.recs with accepted := s.recs.accepted + 1 }
    link := s.link.lineDriven } :=
  State.hear_of_not_isolated (s := s.countAccepted) h

/-- What hearing a frame leaves alone, and the station state it leaves (R61, R63, R162). -/
theorem State.heard_eq (s : State) : s.heard = { s with
    stn := if s.stn = .isolated then .join else s.stn
    peer := { s.peer with
      silence := 0, heard := true, joinCount := if s.stn = .isolated then 0 else s.peer.joinCount }
    recs := { s.recs with accepted := s.recs.accepted + 1 }
    link := s.heard.link } := by
  by_cases h : s.stn = .isolated
  · rw [State.heard_of_isolated h, if_pos h, if_pos h]
  · rw [State.heard_of_not_isolated h, if_neg h, if_neg h]

section Heard

variable (s : State)

theorem State.heard_line : s.heard.link.line = .driven := by
  by_cases h : s.stn = .isolated
  · rw [State.heard_of_isolated h]; exact Link.enqueue_line ..
  · rw [State.heard_of_not_isolated h]; rfl

theorem State.heard_line_ne : s.heard.link.line ≠ .idle := by rw [State.heard_line]; nofun

theorem State.heard_channel (k : Fin 4) : s.heard.channel k = s.channel k := by rw [State.heard_eq]; rfl

theorem State.heard_transmits : s.heard.stn.transmits = s.stn.transmits := by
  rw [State.heard_eq]
  by_cases h : s.stn = .isolated
  · simp [h, StationState.transmits]
  · simp [h]

end Heard

/-! ### Receiving -/

theorem State.receive_of_other {s : State} {im : Image} {src : Byte} (hsrc : src.toNat ≠ im.station.number)
    (hlistens : s.link.listens = true) (dispatch : State → State) :
    s.receive im src dispatch = (dispatch s.heard).settleRestart := by
  unfold State.receive
  rw [if_pos hlistens]
  dsimp only
  rw [if_neg (by simpa [Image.ownSource] using hsrc)]
  rfl

theorem State.receive_of_own {s : State} {im : Image} {src : Byte} (hsrc : src.toNat = im.station.number)
    (hlistens : s.link.listens = true) (dispatch : State → State) :
    s.receive im src dispatch = s.countAccepted.conflict.settleRestart := by
  unfold State.receive
  rw [if_pos hlistens]
  dsimp only
  rw [if_pos (by simpa [Image.ownSource] using hsrc)]

theorem State.receive_of_deaf {s : State} (hdeaf : s.link.listens = false) (im : Image) (src : Byte)
    (dispatch : State → State) : s.receive im src dispatch = s := by
  unfold State.receive
  rw [if_neg (by simp [hdeaf])]

theorem Image.addressed_iff {im : Image} {dst : Byte} :
    im.addressed dst = true ↔ dst.toNat = im.station.number ∨ dst = 255 := by
  simp [Image.addressed, BitVec.toNat_eq]

/-- A frame command in any state: nothing outside service, else its reception (R162, R163). -/
def State.receiving (s : State) (src : Byte) (dispatch : Image → State → State) : State :=
  s.service.elim s fun im => s.receive im src (dispatch im)

/-- A request command in any state: acted on when it is addressed to the station and the station may answer (R133). -/
def State.requesting (s : State) (src dst : Byte) (act : Image → State → State) : State :=
  s.receiving src fun im u => if im.addressed dst && u.stn.transmits then act im u else u

section Receiving

variable {s : State} {im : Image} {src dst : Byte}

theorem State.receiving_of_service (hs : s.service = some im) (dispatch : Image → State → State) :
    s.receiving src dispatch = s.receive im src (dispatch im) := by
  rw [State.receiving, hs]; rfl

theorem State.receiving_of_deaf (hdeaf : s.link.listens = false) (dispatch : Image → State → State) :
    s.receiving src dispatch = s := by
  unfold State.receiving
  cases s.service with
  | none => rfl
  | some im => exact State.receive_of_deaf hdeaf im src _

/-- A request that is acted on, after the frame has been heard (R133, R163). -/
theorem State.requesting_acted (hs : s.service = some im) (hsrc : src.toNat ≠ im.station.number)
    (hdst : dst.toNat = im.station.number ∨ dst = 255) (hstn : s.stn.transmits = true)
    (hlistens : s.link.listens = true) (act : Image → State → State) :
    s.requesting src dst act = (act im s.heard).settleRestart := by
  rw [State.requesting, State.receiving_of_service hs, State.receive_of_other hsrc hlistens,
    if_pos (by rw [Image.addressed_iff.mpr hdst, State.heard_transmits, hstn]; rfl)]

end Receiving

/-! ### The frame commands -/

section Commands

variable (s : State) (src dst : Byte)

theorem exec_demandFrame (w st fl : Byte) (d : Four Word) : exec (.demandFrame src dst w st fl d) s =
    .next (s.receiving src fun _ u => if src.toNat ≤ 31 then { u with
      peer := { u.peer with
        table := upsertPeer ⟨src.toNat, heldWeight w.toNat, reportedState st, Four.ofFn fun g => (d.get g).toNat,
          demandHealthFlag fl, 0⟩ u.peer.table } } else u) := by
  show execDemandFrame src dst w st fl d s = _
  unfold execDemandFrame State.receiving
  cases s.service <;> rfl

/-- A SUPPLY enters the slots of its group (R71). -/
def State.supply (s : State) (im : Image) (src group : Byte) (capacity : Word) : State :=
  match fourOf group.toNat with
  | some g =>
    if src.toNat ≤ 31 then { s with
      peer := { s.peer with capacity := s.peer.capacity.set g ((s.peer.capacity.get g).place
        ⟨src.toNat, min capacity.toNat (im.groups.get g).maxCapacity, 0⟩) } }
    else s
  | none => s

theorem exec_supplyFrame (group : Byte) (c : Word) : exec (.supplyFrame src dst group c) s =
    .next (s.receiving src fun im u => u.supply im src group c) := by
  show execSupplyFrame src dst group c s = _
  unfold execSupplyFrame State.receiving
  cases s.service <;> rfl

theorem exec_otherFrame (kind : Byte) : exec (.otherFrame src kind dst) s = .next (s.receiving src fun _ u => u) := by
  show execOtherFrame src kind dst s = _
  unfold execOtherFrame State.receiving
  cases s.service <;> rfl

theorem exec_target (tag ch flags : Byte) (value : Half) : exec (.target src dst tag ch flags value) s =
    .next (s.requesting src dst fun im u => u.takeTarget im src tag ch flags value) := by
  show execTarget src dst tag ch flags value s = _
  unfold execTarget State.requesting State.receiving
  cases s.service <;> rfl

theorem exec_profile (tag ch flags index : Byte) : exec (.profile src dst tag ch flags index) s =
    .next (s.requesting src dst fun im u => u.takeProfile im src tag ch flags index) := by
  show execProfile src dst tag ch flags index s = _
  unfold execProfile State.requesting State.receiving
  cases s.service <;> rfl

theorem exec_ceiling (tag ch : Byte) (value : Half) : exec (.ceiling src dst tag ch value) s =
    .next (s.requesting src dst fun im u => u.takeCeiling im src tag ch value) := by
  show execCeiling src dst tag ch value s = _
  unfold execCeiling State.requesting State.receiving
  cases s.service <;> rfl

theorem exec_freeze (tag ch : Byte) : exec (.freeze src dst tag ch) s =
    .next (s.requesting src dst fun im u => u.takeFreeze im src tag ch) := by
  show execFreeze src dst tag ch s = _
  unfold execFreeze State.requesting State.receiving
  cases s.service <;> rfl

theorem exec_commit : exec (.commit src dst) s =
    .next (s.receiving src fun im u => if im.addressed dst then u.takeCommit im else u) := by
  show execCommit src dst s = _
  unfold execCommit State.receiving
  cases s.service <;> rfl

theorem exec_clearFeeder (tag ch : Byte) : exec (.clearFeeder src dst tag ch) s =
    .next (s.requesting src dst fun im u => u.onNamed im src tag 11 ch .plain fun k u =>
      (u.takeClearFeeder im k).2.answer src tag 11 (u.takeClearFeeder im k).1 ch .plain) := by
  show execClearFeeder src dst tag ch s = _
  unfold execClearFeeder State.requesting State.receiving
  cases s.service <;> rfl

theorem exec_release (tag ch : Byte) : exec (.release src dst tag ch) s =
    .next (s.requesting src dst fun im u => u.onNamed im src tag 12 ch .plain fun k u =>
      (u.takeRelease im k).2.answer src tag 12 (u.takeRelease im k).1 ch .plain) := by
  show execRelease src dst tag ch s = _
  unfold execRelease State.requesting State.receiving
  cases s.service <;> rfl

theorem exec_restart (tag : Byte) : exec (.restart src dst tag) s =
    .next (s.requesting src dst fun _ u => u.takeRestart src tag) := by
  show execRestart src dst tag s = _
  unfold execRestart State.requesting State.receiving
  cases s.service <;> rfl

theorem exec_flush : exec (.flush src dst) s = .next (s.requesting src dst fun _ u => u.flushRecords) := by
  show execFlush src dst s = _
  unfold execFlush State.requesting State.receiving
  cases s.service <;> rfl

theorem exec_query (tag subject p1 p2 : Byte) : exec (.query src dst tag subject p1 p2) s =
    .next (s.requesting src dst fun im u => u.answer src tag 15 (u.queryAnswer im subject p1 p2).1
      (u.queryAnswer im subject p1 p2).2.1 (u.queryAnswer im subject p1 p2).2.2) := by
  show execQuery src dst tag subject p1 p2 s = _
  unfold execQuery State.requesting State.receiving
  cases s.service <;> rfl

end Commands

/-- A frame with contents is received and dispatched; a request that is not addressed to the station, or that it may not
answer, changes nothing beyond (R133, R163). -/
def ReceivedAs (c : Instr) (kind : Nat) (src dst : Byte) (dispatch : Image → State → State) : Prop :=
  (∀ s : State, exec c s = .next (s.receiving src dispatch)) ∧
    (6 ≤ kind → ∀ im u, im.addressed dst = false ∨ (u.stn.transmits = false ∧ kind ≠ 10) → dispatch im u = u)

theorem receivedAs_request {c : Instr} {kind : Nat} {src dst : Byte} {act : Image → State → State}
    (h : ∀ s : State, exec c s = .next (s.requesting src dst act)) :
    ReceivedAs c kind src dst fun im u => if im.addressed dst && u.stn.transmits then act im u else u := by
  refine ⟨h, fun _ im u hun => if_neg ?_⟩
  rcases hun with hun | ⟨hun, -⟩ <;> simp [hun]

/-- Every frame command with contents is received in this way. -/
theorem exists_receivedAs {c : Instr} {kind : Nat} {src dst : Byte} {payload : List Byte}
    (h : sentFrame c = some (kind, src, dst, payload)) : ∃ dispatch, ReceivedAs c kind src dst dispatch := by
  cases c with
  | demandFrame src dst w st fl d => cases h; exact ⟨_, fun s => exec_demandFrame s .., fun h => absurd h (by decide)⟩
  | supplyFrame src dst g c => cases h; exact ⟨_, fun s => exec_supplyFrame s .., fun h => absurd h (by decide)⟩
  | target src dst tag ch fl v => cases h; exact ⟨_, receivedAs_request fun s => exec_target s ..⟩
  | profile src dst tag ch fl i => cases h; exact ⟨_, receivedAs_request fun s => exec_profile s ..⟩
  | ceiling src dst tag ch v => cases h; exact ⟨_, receivedAs_request fun s => exec_ceiling s ..⟩
  | freeze src dst tag ch => cases h; exact ⟨_, receivedAs_request fun s => exec_freeze s ..⟩
  | commit src dst =>
    cases h
    refine ⟨_, fun s => exec_commit s .., fun _ im u hun => if_neg ?_⟩
    rcases hun with hun | ⟨-, hkind⟩
    · simp [hun]
    · exact absurd rfl hkind
  | clearFeeder src dst tag ch => cases h; exact ⟨_, receivedAs_request fun s => exec_clearFeeder s ..⟩
  | release src dst tag ch => cases h; exact ⟨_, receivedAs_request fun s => exec_release s ..⟩
  | restart src dst tag => cases h; exact ⟨_, receivedAs_request fun s => exec_restart s ..⟩
  | flush src dst => cases h; exact ⟨_, receivedAs_request fun s => exec_flush s ..⟩
  | query src dst tag subject p1 p2 => cases h; exact ⟨_, receivedAs_request fun s => exec_query s ..⟩
  | _ => cases h

/-! ### Announcements and the tables -/

theorem mem_upsertPeer_iff {e x : PeerEntry} {t : List PeerEntry} (h : t.Pairwise fun a b => a.number < b.number) :
    x ∈ upsertPeer e t ↔ (x ∈ t ∧ x.number ≠ e.number) ∨ x = e := by
  induction t with
  | nil => simp [upsertPeer]
  | cons y ys ih =>
    obtain ⟨hy, hys⟩ := List.pairwise_cons.mp h
    unfold upsertPeer
    split
    next hlt =>
      have hother : x ∈ y :: ys → x.number ≠ e.number := fun hx => by
        rcases List.mem_cons.mp hx with rfl | hx
        · omega
        · have := hy x hx; omega
      rw [List.mem_cons, and_iff_left_of_imp hother, or_comm]
    next hge =>
      split
      next heq =>
        have hother : x ∈ ys → x.number ≠ e.number := fun hx => by have := hy x hx; omega
        have hgone : (x ∈ y :: ys ∧ x.number ≠ e.number) ↔ x ∈ ys := by
          rw [List.mem_cons]
          exact ⟨fun ⟨hx, hne⟩ => hx.resolve_left fun hxy => hne (by rw [hxy, heq]), fun hx => ⟨.inr hx, hother hx⟩⟩
        rw [List.mem_cons, hgone, or_comm]
      next hne =>
        have hstays : x = y → x.number ≠ e.number := fun hx => by rw [hx]; exact Ne.symm hne
        rw [List.mem_cons, ih hys, List.mem_cons]
        tauto

theorem heldWeight_eq (w : Nat) : heldWeight w = max 1 (min 15 w) := by
  unfold heldWeight
  split_ifs <;> omega

theorem holdsSource_iff {slot : Option CapacitySlot} {n : Nat} :
    holdsSource slot n = true ↔ ∃ y, slot = some y ∧ y.source = n := by
  cases slot <;> simp [holdsSource]

/-- The place of a SUPPLY in its group, by the first case of R71 that applies. -/
theorem GroupSlots.place_spec (g : GroupSlots) (x : CapacitySlot) :
    let holds := fun slot : Option CapacitySlot => ∃ y, slot = some y ∧ y.source = x.source
    (holds g.slot0 → g.place x = ⟨some x, g.slot1⟩) ∧
    (¬ holds g.slot0 → holds g.slot1 → g.place x = ⟨g.slot0, some x⟩) ∧
    (¬ holds g.slot0 → ¬ holds g.slot1 → g.slot0 = none → g.place x = ⟨some x, g.slot1⟩) ∧
    (¬ holds g.slot1 → ∀ y, g.slot0 = some y → y.source ≠ x.source → g.slot1 = none → g.place x = ⟨g.slot0, some x⟩) ∧
    (∀ y z, g.slot0 = some y → g.slot1 = some z → y.source ≠ x.source → z.source ≠ x.source →
      g.place x = if y.age < z.age then ⟨g.slot0, some x⟩ else ⟨some x, g.slot1⟩) := by
  obtain ⟨slot0, slot1⟩ := g
  simp only [← holdsSource_iff]
  unfold GroupSlots.place
  refine ⟨fun h => if_pos h, fun h h' => (if_neg h).trans (if_pos h'), fun h h' hnone => ?_, fun h' y hy hne hnone => ?_,
    fun y z hy hz hne hne' => ?_⟩ <;> dsimp only at *
  · rw [if_neg h, if_neg h', hnone]
  · subst hy hnone
    rw [if_neg (by simpa [holdsSource] using hne), if_neg h']
  · subst hy hz
    rw [if_neg (by simpa [holdsSource] using hne), if_neg (by simpa [holdsSource] using hne')]

theorem State.supply_eq (s : State) (im : Image) (src group : Byte) (c : Word) : s.supply im src group c =
    { s with peer := { s.peer with capacity := (s.supply im src group c).peer.capacity } } := by
  unfold State.supply
  split
  · split <;> rfl
  · rfl

theorem State.supply_capacity (s : State) (im : Image) (src group : Byte) (c : Word) (g : Fin 4) :
    (s.supply im src group c).peer.capacity.get g = if src.toNat ≤ 31 ∧ g.val = group.toNat
      then (s.peer.capacity.get g).place ⟨src.toNat, min c.toNat (im.groups.get g).maxCapacity, 0⟩
      else s.peer.capacity.get g := by
  unfold State.supply
  split
  next g' hg' =>
    rw [fourOf_eq_some] at hg'
    rw [← hg']
    by_cases hsrc : src.toNat ≤ 31
    · rw [if_pos hsrc, Four.get_set]
      by_cases hg : g = g'
      · rw [if_pos hg, if_pos ⟨hsrc, congrArg Fin.val hg⟩, hg]
      · rw [if_neg hg, if_neg fun h => hg (Fin.ext h.2)]
    · rw [if_neg hsrc, if_neg fun h => hsrc h.1]
  next hnone =>
    rw [if_neg fun h => by rw [fourOf_eq_some.mpr h.2] at hnone; cases hnone]

/-- Settles O34: the entry of the source, and the slots of the group. -/
theorem announcementsEnterTheTables : Obligations.AnnouncementsEnterTheTables := by
  refine ⟨fun s im src dst w st fl d hs hsrc hlistens hsorted => ?_, fun s im src dst group c hs hsrc hlistens => ?_⟩
  · have htable : s.heard.peer.table = s.peer.table := by rw [State.heard_eq]
    rw [exec_demandFrame, State.receiving_of_service hs, State.receive_of_other hsrc hlistens]
    refine ⟨_, rfl, ?_, fun habove => ?_, fun hbelow => ?_⟩
    · split <;> rfl
    · rw [if_neg (by omega), htable]
    · rw [if_pos hbelow]
      dsimp only
      rw [htable]
      refine ⟨upsertPeer_pairwise hsorted, fun e => ?_⟩
      rw [mem_upsertPeer_iff hsorted, heldWeight_eq]
      rfl
  · have hcapacity : s.heard.peer.capacity = s.peer.capacity := by rw [State.heard_eq]
    rw [exec_supplyFrame, State.receiving_of_service hs, State.receive_of_other hsrc hlistens]
    refine ⟨_, rfl, ?_, ?_, fun g => ⟨fun hg => ?_, fun hbelow hg => ?_⟩⟩
    · exact s.heard.supply_eq ..
    · rintro habove
      refine Four.ext_get fun g => ?_
      rw [State.supply_capacity, if_neg (by have := g.isLt; omega), hcapacity]
    · rw [State.supply_capacity, if_neg fun h => hg h.2, hcapacity]
    · dsimp only
      rw [State.supply_capacity, if_pos ⟨hbelow, hg⟩, hcapacity]
      exact GroupSlots.place_spec (s.peer.capacity.get g)
        ⟨src.toNat, min c.toNat (im.groups.get g).maxCapacity, 0⟩

/-! ### Frames that fail their checks -/

theorem kindLengths_eq_some {kind : Nat} {ls : List Nat} : kindLengths kind = some ls ↔ (kind, ls) ∈
    [(1, [19]), (2, [5]), (3, [10]), (4, [3, 5, 24, 25, 43, 53, 55, 62, 81, 88]), (5, [27, 54, 81]),
      (6, [5]), (7, [4]), (8, [4]), (9, [2]), (10, [0]), (11, [2]), (12, [2]), (13, [1]), (14, [0]), (15, [4])] := by
  unfold kindLengths
  split <;> simp_all [eq_comm]

/-- The CRC of the bytes before it stands in the two bytes after them (12.1). -/
theorem withCrc_take_iff {bs : List Byte} {n : Nat} (h : n + 7 ≤ bs.length) :
    withCrc (bs.take (n + 5)) = bs.take (n + 7) ↔ (crc16 (bs.take (n + 5))).toNat =
      256 * (bs.getD (n + 5) 0).toNat + (bs.getD (n + 6) 0).toNat := by
  have hlast : bs.take (n + 7) = bs.take (n + 5) ++ [bs.getD (n + 5) 0, bs.getD (n + 6) 0] := by
    rw [List.take_add_one, List.take_add_one, List.append_assoc, List.getElem?_eq_getElem (by omega),
      List.getElem?_eq_getElem (by omega), List.getD_eq_getElem _ _ (by omega), List.getD_eq_getElem _ _ (by omega)]
    rfl
  generalize bs.getD (n + 5) 0 = hi at *
  generalize bs.getD (n + 6) 0 = lo at *
  have hcrc := (crc16 (bs.take (n + 5))).isLt
  have hhi := hi.isLt
  have hlo := lo.isLt
  rw [hlast, withCrc, List.append_cancel_left_eq]
  generalize (crc16 (bs.take (n + 5))).toNat = crc at *
  simp only [beBytes, List.cons.injEq, and_true, BitVec.toNat_eq, BitVec.toNat_ofNat]
  omega

/-- The bytes are not a valid frame exactly where one of the checks of R162 fails. -/
theorem validFrame_eq_false {bs : List Byte} :
    let n := (bs.getD 4 0).toNat
    validFrame bs = false ↔ 88 < n ∨ bs.length < n + 7 ∨
      (crc16 (bs.take (n + 5))).toNat ≠ 256 * (bs.getD (n + 5) 0).toNat + (bs.getD (n + 6) 0).toNat ∨
      ∃ ls, kindLengths (bs.getD 2 0).toNat = some ls ∧ n ∉ ls := by
  dsimp only
  generalize hn : (bs.getD 4 0).toNat = n
  have hlengths : lengthAllowed (bs.getD 2 0).toNat n = false ↔
      ∃ ls, kindLengths (bs.getD 2 0).toNat = some ls ∧ n ∉ ls := by
    unfold lengthAllowed
    cases hk : kindLengths (bs.getD 2 0).toNat with
    | none => simp
    | some ls => simp
  unfold validFrame
  dsimp only
  rw [hn, Bool.and_eq_false_iff, Bool.and_eq_false_iff, Bool.and_eq_false_iff, hlengths, or_assoc, or_assoc]
  simp only [decide_eq_false_iff_not, not_le, beq_eq_false_iff_ne]
  by_cases hlen : n + 7 ≤ bs.length
  · rw [ne_eq, withCrc_take_iff hlen]
  · simp [Nat.lt_of_not_le hlen]

theorem commandOfPayload_ne_linkReject (kind src dst : Byte) (p bytes : List Byte) :
    commandOfPayload kind src dst p ≠ .linkReject bytes := by
  unfold commandOfPayload
  split <;> nofun

theorem commandOfFrame_eq_linkReject {own : Nat} {bytes : List Byte} :
    commandOfFrame own bytes = .linkReject bytes ↔ validFrame bytes = false := by
  refine ⟨fun h => by_contra fun hvalid => ?_, fun h => if_pos h⟩
  unfold commandOfFrame at h
  rw [if_neg hvalid] at h
  dsimp only at h
  split at h
  · cases h
  · split at h
    · exact commandOfPayload_ne_linkReject _ _ _ _ _ h
    · cases h

theorem exec_linkReject_of_listening {s : State} {im : Image} (hs : s.service = some im) (hlistens : s.link.listens = true)
    (bytes : List Byte) : exec (.linkReject bytes) s = .next (if validFrame bytes = true then s else { s with
      link := s.link.lineDriven, recs := { s.recs with rejected := s.recs.rejected + 1 } }) := by
  show execLinkReject bytes s = _
  simp only [execLinkReject, hs, hlistens, Bool.not_true, Bool.or_false]
  split <;> rfl

/-- Settles O35: what is heard, what is rejected, and what the part does not read. -/
theorem framesAreHeardOrRejected : Obligations.FramesAreHeardOrRejected := by
  refine ⟨fun s im src kind dst hs hsrc hlistens => ⟨?_, State.heard_of_not_isolated, State.heard_of_isolated⟩,
    fun s im bytes hs hlistens => ?_, fun s c hown hframe => ?_⟩
  · rw [exec_otherFrame, State.receiving_of_service hs, State.receive_of_other hsrc hlistens]
  · have hfails := validFrame_eq_false (bs := bytes)
    simp only [kindLengths_eq_some] at hfails
    dsimp only
    rw [← hfails, exec_linkReject_of_listening hs hlistens]
    exact ⟨commandOfFrame_eq_linkReject, fun h => by rw [if_neg (by simp [h])]; rfl, fun h => by rw [if_pos (by simpa using h)]⟩
  · have hdeaf : s.link.listens = false := by
      rw [Bool.eq_false_iff, ne_eq, Link.listens_iff]
      tauto
    rcases hframe with hsent | rfl | ⟨src, kind, dst, rfl⟩ | ⟨bytes, rfl⟩
    · obtain ⟨⟨kind, src, dst, payload⟩, hc⟩ := Option.isSome_iff_exists.mp hsent
      obtain ⟨dispatch, hexec, -⟩ := exists_receivedAs hc
      rw [hexec, State.receiving_of_deaf hdeaf]
    · show execConflictFrame s = _
      unfold execConflictFrame
      cases s.service with
      | none => rfl
      | some im => exact if_neg (by simp [hdeaf])
    · rw [exec_otherFrame, State.receiving_of_deaf hdeaf]
    · show execLinkReject bytes s = _
      unfold execLinkReject
      cases s.service with
      | none => rfl
      | some im => exact if_pos (by simp [hdeaf])

/-! ### Conflict frames -/

theorem Link.enqueue_lineDriven (l : Link) (e : Entry) : l.lineDriven.enqueue e = (l.enqueue e).lineDriven := by
  unfold Link.enqueue
  by_cases hroom : l.queue.length < queueCapacity
  · refine (if_pos hroom).trans ?_
    rw [if_pos hroom]
    rfl
  refine (if_neg hroom).trans ?_
  rw [if_neg hroom]
  by_cases hrecords : l.queue.any Entry.waitingRecords = true
  · refine (if_pos hrecords).trans ?_
    rw [if_pos hrecords]
    rfl
  refine (if_neg hrecords).trans ?_
  rw [if_neg hrecords]
  by_cases halarm : e.body.isAlarm = true
  · rw [if_pos halarm, if_pos halarm]
    dsimp only [Link.lineDriven]
    cases l.queue.find? Entry.waitingAnswer <;> rfl
  · rw [if_neg halarm, if_neg halarm]
    rfl

section Conflict

variable {s : State}

theorem State.conflict_of_silent (h : s.stn = .silent) : s.countAccepted.conflict = { s with
    peer := { s.peer with silence := 0, heard := true, conflictClear := 0, conflictSeen := true }
    recs := { s.recs with accepted := s.recs.accepted + 1 }
    link := s.link.lineDriven } := by
  unfold State.conflict
  exact if_pos h

theorem State.conflict_of_isolated (h : s.stn = .isolated) : s.countAccepted.conflict = { s with
    stn := .silent
    peer := { s.peer with
      silence := 0, heard := true, conflictClear := 0, conflictSeen := true, silencedAtExpiry := s.peer.timer.due }
    recs := { s.recs with accepted := s.recs.accepted + 1 }
    link := (s.link.enqueue (Entry.fresh (.alarm .isolationEnded) false)).lineDriven.empty } := by
  have hne : s.stn ≠ .silent := by rw [h]; nofun
  let u : State := { s with
    peer := { s.peer with silence := 0, heard := true }
    recs := { s.recs with accepted := s.recs.accepted + 1 }
    link := s.link.lineDriven }
  have hqueued : u.enqueue (.alarm .isolationEnded) =
      { u with link := (s.link.enqueue (Entry.fresh (.alarm .isolationEnded) false)).lineDriven } := by
    rw [State.enqueue_of_driven _ _ (by nofun), ← Link.enqueue_lineDriven]
  unfold State.conflict State.enterSilent
  refine (if_neg hne).trans ?_
  rw [if_pos (by exact h)]
  exact congrArg (fun x : State => { x with stn := .silent, link := x.link.empty, peer := x.peer.silenced }) hqueued

theorem State.conflict_of_joined (h : s.stn ≠ .silent) (h' : s.stn ≠ .isolated) : s.countAccepted.conflict = { s with
    stn := .silent
    peer := { s.peer with
      silence := 0, heard := true, conflictClear := 0, conflictSeen := true, silencedAtExpiry := s.peer.timer.due }
    recs := { s.recs with accepted := s.recs.accepted + 1 }
    link := s.link.lineDriven.empty } := by
  unfold State.conflict State.enterSilent
  refine (if_neg h).trans ?_
  rw [if_neg (by exact h')]
  rfl

end Conflict

/-- Settles O36: the conflict frame, by the station state it meets. -/
theorem aConflictFrameSilencesTheStation : Obligations.AConflictFrameSilencesTheStation := by
  intro s im hs hlistens
  obtain ⟨hserved, -⟩ := State.service_eq_some.mp hs
  have hdue : s.peer.timer.due = decide (s.peer.timer = some 0) := by
    rw [Bool.eq_iff_iff, Timer.due_iff, decide_eq_true_iff]
  refine ⟨s.countAccepted.conflict, ?_, ?_, ⟨fun hst => ?_, fun hst => ?_, fun hst => ?_⟩,
    fun c kind src dst payload hc hsrc => ?_, fun src kind dst hsrc => ?_⟩
  · show execConflictFrame s = _
    simp only [execConflictFrame, hs, hlistens, if_true]
  · rw [← hdue]
    cases hst : s.stn with
    | load => rw [hst] at hserved; cases hserved
    | halted => rw [hst] at hserved; cases hserved
    | silent => rw [State.conflict_of_silent hst, hst, if_pos rfl]
    | isolated => rw [State.conflict_of_isolated hst, if_neg nofun]
    | _ => rw [State.conflict_of_joined (by rw [hst]; nofun) (by rw [hst]; nofun), if_neg nofun]
  · rw [State.conflict_of_silent hst]
    rfl
  · rw [State.conflict_of_joined (by rcases hst with h | h <;> rw [h] <;> nofun)
      (by rcases hst with h | h <;> rw [h] <;> nofun)]
    rfl
  · rw [State.conflict_of_isolated hst]
    rfl
  · obtain ⟨dispatch, hexec, -⟩ := exists_receivedAs hc
    rw [hexec, State.receiving_of_service hs, State.receive_of_own hsrc hlistens]
  · rw [exec_otherFrame, State.receiving_of_service hs, State.receive_of_own hsrc hlistens]

end Sys2Proof.Machine
end

section
/-! Requests (Chapters 7, 8 and 9): the named channel, the ANSWER, and the statement of each request. -/

namespace Sys2Proof.Machine

/-! ### The named channel and the ANSWER -/

theorem Image.named_eq_some {im : Image} {ch : Byte} {k : Fin 4} (hch : ch.toNat = k.val)
    (hk : (im.channel k).kind ≠ .none) : im.named ch = some k := by
  unfold Image.named
  rw [fourOf_eq_some.mpr hch.symm]
  exact if_pos (ChannelConfig.configured_iff.mpr hk)

theorem Image.named_eq_none {im : Image} {ch : Byte} (h : ∀ k : Fin 4, ch.toNat = k.val → (im.channel k).kind = .none) :
    im.named ch = none := by
  unfold Image.named
  cases hf : fourOf ch.toNat with
  | none => rfl
  | some k =>
    exact if_neg fun hconf => ChannelConfig.configured_iff.mp hconf (h k (fourOf_eq_some.mp hf).symm)

theorem State.setChannel_self (s : State) (k : Fin 4) : s.setChannel k (s.channel k) = s := by
  have h : s.channels.set k (s.channels.get k) = s.channels := Four.ext_get fun i => by
    rw [Four.get_set]
    split
    next hi => rw [hi]
    next => rfl
  exact congrArg (fun c : Four Channel => { s with channels := c }) h

/-- Within the arrival of a frame the line is not idle, so an ANSWER is queued and no attempt begins (R134, R157). -/
theorem State.answer_of_driven {s : State} (h : s.link.line ≠ .idle) (src tag : Byte) (kind : Nat) (code : ResultCode)
    (ch : Byte) (x : AnswerContent) (awaited : Bool) : s.answer src tag kind code ch x awaited =
      { s with link := s.link.enqueue ⟨.answer ⟨src, tag, kind, code, ch, x⟩, awaited, 0, false⟩ } :=
  State.enqueue_of_driven _ _ h

/-- The ANSWER to a request that has changed a channel of the state which heard it. -/
theorem State.heard_answer (s : State) (k : Fin 4) (c : Channel) (src tag : Byte) (kind : Nat) (code : ResultCode)
    (ch : Byte) (x : AnswerContent) : (s.heard.setChannel k c).answer src tag kind code ch x =
      { s.heard.setChannel k c with link := s.heard.link.enqueue ⟨.answer ⟨src, tag, kind, code, ch, x⟩, false, 0, false⟩ } :=
  State.answer_of_driven (s := s.heard.setChannel k c) s.heard_line_ne ..

section Request

variable {s : State} {im : Image} {src dst ch : Byte} {k : Fin 4}

theorem State.onNamed_some (hch : ch.toNat = k.val) (hk : (im.channel k).kind ≠ .none) (u : State) (tag : Byte)
    (kind : Nat) (refused : AnswerContent) (act : Fin 4 → State → State) :
    u.onNamed im src tag kind ch refused act = act k u := by
  unfold State.onNamed
  rw [Image.named_eq_some hch hk]

theorem State.onNamed_none (h : ∀ k : Fin 4, ch.toNat = k.val → (im.channel k).kind = .none) (u : State) (tag : Byte)
    (kind : Nat) (refused : AnswerContent) (act : Fin 4 → State → State) :
    u.onNamed im src tag kind ch refused act = u.answer src tag kind .refusedChannel ch refused := by
  unfold State.onNamed
  rw [Image.named_eq_none h]

/-- A request that names a configured channel: what is done to it, after the frame has been heard (R133). -/
theorem State.requesting_named (hs : s.service = some im) (hsrc : src.toNat ≠ im.station.number)
    (hdst : dst.toNat = im.station.number ∨ dst = 255) (hstn : s.stn.transmits = true)
    (hlistens : s.link.listens = true) (hch : ch.toNat = k.val) (hk : (im.channel k).kind ≠ .none) {tag : Byte}
    {kind : Nat} {refused : AnswerContent} (act : Image → Fin 4 → State → State) :
    (s.requesting src dst fun im u => u.onNamed im src tag kind ch refused (act im)) =
      (act im k s.heard).settleRestart := by
  rw [State.requesting_acted hs hsrc hdst hstn hlistens, State.onNamed_some hch hk]

/-- A request that names no configured channel is answered and changes nothing (R133). -/
theorem State.requesting_unnamed (hs : s.service = some im) (hsrc : src.toNat ≠ im.station.number)
    (hdst : dst.toNat = im.station.number ∨ dst = 255) (hstn : s.stn.transmits = true)
    (hlistens : s.link.listens = true) (h : ∀ k : Fin 4, ch.toNat = k.val → (im.channel k).kind = .none) {tag : Byte}
    {kind : Nat} {refused : AnswerContent} (act : Image → Fin 4 → State → State) :
    (s.requesting src dst fun im u => u.onNamed im src tag kind ch refused (act im)) =
      ({ s.heard with link := s.heard.link.enqueue ⟨.answer ⟨src, tag, kind, .refusedChannel, ch, refused⟩, false, 0, false⟩ }
        : State).settleRestart := by
  rw [State.requesting_acted hs hsrc hdst hstn hlistens, State.onNamed_none h,
    State.answer_of_driven s.heard_line_ne]

end Request

/-! ### TARGET, PROFILE, CEILING, FREEZE and COMMIT -/

theorem Kind.targetTop_eq {kind : Kind} (h : kind ≠ .none) : kind.targetTop = if kind = .coagulant then 20000 else 1000 := by
  cases kind with
  | none => exact absurd rfl h
  | coagulant => rfl
  | chlorine => rfl

/-- Settles O37: the item that the TARGET gives, set or staged. -/
theorem aTargetIsSetOrStaged : Obligations.ATargetIsSetOrStaged := by
  intro s im src dst tag ch flags value k hs hsrc hdst hstn hlistens hch hk
  dsimp only
  rw [exec_target]
  unfold State.takeTarget
  rw [State.requesting_named hs hsrc hdst hstn hlistens hch hk (act := fun im k s =>
    (s.onChannel k fun c => { c with
      dose := c.dose.target (deferredFlag flags) (targetItem (im.channel k).kind flags value) }).answer src tag 6
        (targetCode (im.channel k).kind flags value) ch (.value (targetItem (im.channel k).kind flags value).override)),
    State.onChannel, s.heard_channel, State.heard_answer, ← Kind.targetTop_eq hk]
  unfold targetItem targetCode clearingFlag DoseEngine.target deferredFlag clampTarget
  cases hrevert : flags.getLsbD 1 with
  | false => simp only [Bool.false_eq_true, if_false, Bool.not_false, Bool.true_and, decide_eq_true_eq, true_and]; rfl
  | true => simp only [if_true, Bool.not_true, Bool.false_and, Bool.false_eq_true, if_false, Bool.true_eq_false, false_and]; rfl

/-- The active index formed anew, with what its change brings (R19, R20). -/
theorem DoseEngine.formIndex_eq (d : DoseEngine) (cc : ChannelConfig) (selector : Fin 8) : d.formIndex cc selector =
    let j := d.profileOverride.getD selector
    if j = d.activeIndex then d else { d with
      activeIndex := j, targetOverride := none
      eest := if cc.kind = .chlorine then (cc.profiles.get j).e0 else d.eest } := by
  unfold DoseEngine.formIndex DoseEngine.adopt
  dsimp only
  split
  · rfl
  · simp only [beq_iff_eq]
    rfl

theorem DoseEngine.formIndex_activeIndex (d : DoseEngine) (cc : ChannelConfig) (selector : Fin 8) :
    (d.formIndex cc selector).activeIndex = d.profileOverride.getD selector := by
  rw [DoseEngine.formIndex_eq]
  dsimp only
  split
  next h => exact h.symm
  next => rfl

/-- Settles O38: the item that the PROFILE gives, refused, staged or applied. -/
theorem aProfileIsSetOrStaged : Obligations.AProfileIsSetOrStaged := by
  intro s im src dst tag ch flags index k hs hsrc hdst hstn hlistens hch hk
  have hexec : exec (.profile src dst tag ch flags index) s =
      .next (s.heard.takeProfile im src tag ch flags index).settleRestart := by
    rw [exec_profile, State.requesting_acted hs hsrc hdst hstn hlistens]
  have hselector : s.heard.selector = s.selector := by rw [State.heard_eq]
  have hitem : ∀ item, profileItem flags index = some item → exec (.profile src dst tag ch flags index) s =
      .next (State.settleRestart { s.heard.setChannel k { s.channel k with
          dose := (s.channel k).dose.profile (im.channel k) s.selector.index (deferredFlag flags) item } with
        link := s.heard.link.enqueue ⟨.answer ⟨src, tag, 7, .accepted, ch, .value (some
          (if deferredFlag flags = true then item.staged else ((s.channel k).dose.profile (im.channel k)
            s.selector.index (deferredFlag flags) item).activeIndex.val))⟩, false, 0, false⟩ }) := fun item hitem => by
    rw [hexec, State.takeProfile, State.onNamed_some hch hk, hitem]
    dsimp only
    rw [State.channel_onChannel_same, State.onChannel, s.heard_channel, hselector, State.heard_answer]
  refine ⟨fun hkept hindex => ?_, fun i hi => ?_⟩
  · have hnone : profileItem flags index = none := by
      unfold profileItem clearingFlag
      rw [hkept, if_neg nofun, show eightOf index.toNat = none from dif_neg (by omega)]
      rfl
    have hself : s.heard.setChannel k (s.channel k) = s.heard := by rw [← s.heard_channel, State.setChannel_self]
    dsimp only
    rw [hexec, State.takeProfile, State.onNamed_some hch hk, hnone]
    dsimp only
    rw [s.heard_channel, State.answer_of_driven s.heard_line_ne, hself]
  · have hsome : profileItem flags index = some (if flags.getLsbD 1 = true then .release else .index i) := by
      unfold profileItem clearingFlag
      cases hrelease : flags.getLsbD 1 with
      | true => rfl
      | false =>
        rw [hrelease] at hi
        rw [if_neg nofun, if_neg nofun, eightOf_eq_some.mpr (hi.resolve_left nofun)]
        rfl
    have hexec' := hitem _ hsome
    refine ⟨fun hdeferred => ?_, fun hnow => ?_⟩
    · rw [show deferredFlag flags = true from hdeferred] at hexec'
      rw [hexec']
      cases flags.getLsbD 1 <;> rfl
    · rw [show deferredFlag flags = false from hnow] at hexec'
      have happlied : ∀ item : ProfileItem, ((s.channel k).dose.profile (im.channel k) s.selector.index false item) =
          { (s.channel k).dose with profileOverride := item.override }.formIndex (im.channel k) s.selector.index :=
        fun _ => rfl
      dsimp only
      rw [hexec', happlied, DoseEngine.formIndex_activeIndex, DoseEngine.formIndex_eq]
      cases flags.getLsbD 1 <;> rfl

theorem DoseEngine.ceiling_of_frozen {d : DoseEngine} (h : d.freeze = true) (native value : Nat) :
    d.ceiling native value = (.refusedFrozen, d) := if_pos h

theorem DoseEngine.ceiling_of_zero {d : DoseEngine} (h : d.freeze = false) (native : Nat) :
    d.ceiling native 0 = (.refusedValue, d) := by
  simp [DoseEngine.ceiling, h]

theorem DoseEngine.ceiling_of_set {d : DoseEngine} (h : d.freeze = false) {value : Nat} (hv : value ≠ 0) (native : Nat) :
    d.ceiling native value = (if native < value then .clamped else .accepted, d.setCeiling (min value native)) := by
  unfold DoseEngine.ceiling
  rw [if_neg (by simp [h]), if_neg hv]
  by_cases hover : native < value
  · rw [if_pos hover, if_pos hover, Nat.min_eq_right hover.le]
  · rw [if_neg hover, if_neg hover, Nat.min_eq_left (by omega)]

/-- Settles O39: the three judgements of a CEILING, and FREEZE. -/
theorem aCeilingIsSetUntilFrozen : Obligations.ACeilingIsSetUntilFrozen := by
  intro s im src dst tag ch value k hs hsrc hdst hstn hlistens hch hk
  have hceiling : exec (.ceiling src dst tag ch value) s = .next (State.settleRestart
      { s.heard.setChannel k { s.channel k with
          dose := ((s.channel k).dose.ceiling (im.channel k).nativeCeiling value.toNat).2 } with
        link := s.heard.link.enqueue ⟨.answer ⟨src, tag, 8,
          ((s.channel k).dose.ceiling (im.channel k).nativeCeiling value.toNat).1, ch,
          .value (some ((s.channel k).dose.ceiling (im.channel k).nativeCeiling value.toNat).2.cw)⟩, false, 0, false⟩ }) := by
    rw [exec_ceiling]
    unfold State.takeCeiling
    rw [State.requesting_named hs hsrc hdst hstn hlistens hch hk (act := fun im k s =>
      (s.onChannel k fun c => { c with
        dose := ((s.channel k).dose.ceiling (im.channel k).nativeCeiling value.toNat).2 }).answer src tag 8
          ((s.channel k).dose.ceiling (im.channel k).nativeCeiling value.toNat).1 ch
          (.value (some ((s.channel k).dose.ceiling (im.channel k).nativeCeiling value.toNat).2.cw))),
      State.onChannel, s.heard_channel, State.heard_answer]
  refine ⟨fun hfrozen => ?_, fun hfree hzero => ?_, fun hfree hvalue => ?_, ?_⟩
  · rw [hceiling, DoseEngine.ceiling_of_frozen hfrozen]
  · rw [hceiling, hzero]
    exact congrArg _ (by rw [show (0 : Half).toNat = 0 from rfl, DoseEngine.ceiling_of_zero hfree])
  · rw [hceiling, DoseEngine.ceiling_of_set hfree (fun h => hvalue (BitVec.eq_of_toNat_eq h))]
    rfl
  · rw [exec_freeze]
    unfold State.takeFreeze
    rw [State.requesting_named hs hsrc hdst hstn hlistens hch hk (act := fun _ k s =>
      (s.onChannel k fun c => { c with dose := { c.dose with freeze := true } }).answer src tag 9 .accepted ch .plain),
      State.onChannel, s.heard_channel, State.heard_answer]

/-- COMMIT on the channels, with the selector index as it stands before (R138). -/
theorem State.takeCommit_eq (s : State) (im : Image) : s.takeCommit im = s.forChannels im.configured fun k u =>
    u.onChannel k fun c => { c with dose := c.dose.commit (im.channel k) s.selector.index } := by
  unfold State.takeCommit State.forChannels
  suffices h : ∀ u : State, u.selector = s.selector → im.configured.foldl (fun u k =>
      u.onChannel k fun c => { c with dose := c.dose.commit (im.channel k) u.selector.index }) u =
        im.configured.foldl (fun u k =>
          u.onChannel k fun c => { c with dose := c.dose.commit (im.channel k) s.selector.index }) u from h s rfl
  induction im.configured with
  | nil => exact fun _ _ => rfl
  | cons k ks ih =>
    intro u hu
    rw [List.foldl_cons, List.foldl_cons, hu]
    exact ih _ hu

/-- The pending profile item leaves the override as it says (R137, R138). -/
theorem DoseEngine.commit_eq (d : DoseEngine) (cc : ChannelConfig) (selector : Fin 8) : d.commit cc selector =
    let own := (d.pendingProfile.map ProfileItem.override).getD d.profileOverride
    let i := if d.pendingProfile.isSome = true then own.getD selector else d.activeIndex
    { d with
      profileOverride := own
      activeIndex := i
      targetOverride := (d.pendingTarget.map TargetItem.override).getD
        (if i ≠ d.activeIndex then none else d.targetOverride)
      eest := if i ≠ d.activeIndex ∧ cc.kind = .chlorine then (cc.profiles.get i).e0 else d.eest
      pendingProfile := none
      pendingTarget := none } := by
  unfold DoseEngine.commit DoseEngine.applyProfile
  cases d.pendingProfile with
  | none => cases d.pendingTarget <;> simp
  | some item =>
    simp only [DoseEngine.formIndex_eq]
    by_cases h : item.override.getD selector = d.activeIndex <;> cases d.pendingTarget <;> simp [h]

/-- Settles O40: each configured channel commits what is staged. -/
theorem aCommitAppliesWhatIsStaged : Obligations.ACommitAppliesWhatIsStaged := by
  intro s im src dst hs hsrc hdst hlistens
  have hselector : s.heard.selector = s.selector := by rw [State.heard_eq]
  refine ⟨s.heard.takeCommit im, ?_, ?_, fun k => ⟨fun hnone => ?_, fun hk => ?_⟩⟩
  · rw [exec_commit, State.receiving_of_service hs, State.receive_of_other hsrc hlistens,
      if_pos (Image.addressed_iff.mpr hdst)]
  · rw [State.takeCommit_eq]
    exact State.forChannels_onChannel_eq
      (fun k c => { c with dose := c.dose.commit (im.channel k) s.heard.selector.index }) _ _
  · rw [State.takeCommit_eq, State.onConfigured_channel
      (fun k c => { c with dose := c.dose.commit (im.channel k) s.heard.selector.index }), if_pos hnone, s.heard_channel]
  · rw [State.takeCommit_eq, State.onConfigured_channel
      (fun k c => { c with dose := c.dose.commit (im.channel k) s.heard.selector.index }), if_neg hk, s.heard_channel,
      hselector, DoseEngine.commit_eq]
    cases (s.channel k).dose.pendingProfile with
    | none => cases (s.channel k).dose.pendingTarget with
      | none => rfl
      | some target => cases target <;> rfl
    | some item =>
      cases item <;> cases (s.channel k).dose.pendingTarget with
      | none => rfl
      | some target => cases target <;> rfl

/-! ### Requests that are not acted on -/

/-- Settles O44: the refusal of an unnamed channel, and the frames that are only heard. -/
theorem someRequestsAreNotActedOn : Obligations.SomeRequestsAreNotActedOn := by
  refine ⟨fun s im src dst tag ch flags index value hs hsrc hdst hstn hlistens hnone => ?_,
    fun s im c hs hlistens ⟨kind, src, dst, payload, hc, hkind, hsrc, hun⟩ => ?_⟩
  · have hrefused := fun {kind : Nat} {refused : AnswerContent} (act : Image → Fin 4 → State → State) =>
      congrArg (Host.Outcome.next (φ := Fault) (ρ := Refusal)) (State.requesting_unnamed hs hsrc hdst hstn hlistens hnone
        (tag := tag) (kind := kind) (refused := refused) act)
    exact ⟨(exec_target ..).trans (hrefused _), (exec_profile ..).trans (hrefused _), (exec_ceiling ..).trans (hrefused _),
      (exec_freeze ..).trans (hrefused _), (exec_clearFeeder ..).trans (hrefused _), (exec_release ..).trans (hrefused _)⟩
  · obtain ⟨dispatch, hexec, hsame⟩ := exists_receivedAs hc
    rw [hexec, State.receiving_of_service hs, State.receive_of_other hsrc hlistens, hsame hkind im s.heard ?_]
    rcases hun with ⟨hown, hall⟩ | ⟨hsilent, hcommit⟩
    · exact .inl (Bool.eq_false_iff.mpr (mt Image.addressed_iff.mp (not_or.mpr ⟨hown, hall⟩)))
    · exact .inr ⟨by rw [State.heard_transmits, hsilent]; rfl, hcommit⟩

/-! ### RESTART -/

/-- An event in which the awaited ANSWER has left the transmit queue begins the restart (R132, R143). -/
theorem State.settleRestart_begins {s : State} (hleft : s.link.awaitedLeft = true) (hpending : s.restartPending = true) :
    s.settleRestart = s.beginRestart := by
  simp [State.settleRestart, hleft, hpending]

theorem exec_restart_of_acted {s : State} {im : Image} {src dst tag : Byte} (hs : s.service = some im)
    (hsrc : src.toNat ≠ im.station.number) (hdst : dst.toNat = im.station.number ∨ dst = 255)
    (hstn : s.stn.transmits = true) (hlistens : s.link.listens = true) : exec (.restart src dst tag) s =
      .next (State.settleRestart { s.heard with
        restartPending := true
        link := s.heard.link.enqueue ⟨.answer ⟨src, tag, 13, .accepted, 255, .plain⟩, true, 0, false⟩ }) := by
  rw [exec_restart, State.requesting_acted hs hsrc hdst hstn hlistens, State.takeRestart,
    State.answer_of_driven (s := { s.heard with restartPending := true }) s.heard_line_ne]

/-- An ANSWER that finds a full queue without a waiting RECORDS is dropped (R160). -/
theorem Link.enqueue_dropped {l : Link} {e : Entry} (hfull : 8 ≤ l.queue.length)
    (hrecords : l.queue.any Entry.waitingRecords = false) (he : e.body.isAlarm = false) :
    l.enqueue e = { l with awaitedLeft := l.awaitedLeft || e.awaited } := by
  unfold Link.enqueue
  rw [if_neg (by unfold queueCapacity; omega), if_neg (by simp [hrecords]), if_neg (by simp [he])]

theorem Entry.waitingRecords_eq_false {e : Entry} : e.waitingRecords = false ↔ (e.body.priority = 6 → e.inAttempt = true) := by
  cases h : e.inAttempt <;> simp [Entry.waitingRecords, h]

/-- The packing test that a freed entry brings does not hold a restart back (R132, R159). -/
theorem State.afterLeaving_begins {s : State} {im : Image} (hs : s.service = some im) (hleft : s.link.awaitedLeft = true)
    (hpending : s.restartPending = true) : s.afterLeaving = (s.packingTest im).beginRestart := by
  have hkept : (s.packingTest im).restartPending = s.restartPending :=
    State.packingTest_keeps (P := fun t => t.restartPending = s.restartPending) (fun _ _ _ ht => ht) rfl
  unfold State.afterLeaving
  rw [hs]
  exact State.settleRestart_begins ((State.packingTest_awaitedLeft s im).trans hleft) (hkept.trans hpending)

/-- An awaited ANSWER that is queued stays queued as an ALARM is, or leaves by giving way to it (R160). -/
theorem Link.enqueue_awaited {l : Link} (h : ∃ e ∈ l.queue, e.awaited = true ∧ e.body.priority = 4) (x : Entry) :
    ((l.enqueue x).awaitedLeft || (l.enqueue x).queue.any Entry.awaited) = true := by
  obtain ⟨e, he, hawaited, hanswer⟩ := h
  have hstays : ∀ {m : Link}, e ∈ m.queue → (m.awaitedLeft || m.queue.any Entry.awaited) = true := fun hm => by
    rw [Bool.or_eq_true, List.any_eq_true]
    exact .inr ⟨e, hm, hawaited⟩
  rcases l.enqueue_cases x with ⟨-, hq⟩ | ⟨-, -, hq⟩ | ⟨-, -, -, v, hv, hq⟩ | ⟨-, -, -, -, hq⟩ | ⟨-, -, -, hq⟩ <;> rw [hq]
  · exact hstays (List.mem_append_left _ he)
  · refine hstays (List.mem_append_left _ (List.mem_reverse.mpr ?_))
    rw [List.mem_eraseP_of_neg (by simp [Entry.waitingRecords, hanswer])]
    exact List.mem_reverse.mpr he
  · obtain ⟨a, b, hqueue, herase⟩ := eraseP_eq_append_cons hv
    rw [hqueue, List.mem_append, List.mem_cons] at he
    rcases he with he | rfl | he
    · exact hstays (by rw [herase]; simp [he])
    · simp [hawaited]
    · exact hstays (by rw [herase]; simp [he])
  · exact hstays he
  · exact hstays he

/-- Settles O9: each way in which the awaited ANSWER leaves the queue begins the restart. -/
theorem aRestartAwaitsItsAnswer : Obligations.ARestartAwaitsItsAnswer := by
  refine ⟨fun s im src dst tag hs hsrc hdst hstn hlistens => exec_restart_of_acted hs hsrc hdst hstn hlistens,
    fun s im src dst tag hs hsrc hdst hstn hlistens hfull hrecords => ?_,
    fun s im overflow wire hs hpending htx ⟨e, he, hattempt, hawaited⟩ => ?_,
    fun s im hs hpending hstn hlistens hqueued => ?_⟩
  · have hne : s.stn ≠ .isolated := by rcases hstn with h | h <;> rw [h] <;> nofun
    have htransmits : s.stn.transmits = true := by rcases hstn with h | h <;> rw [h] <;> rfl
    rw [exec_restart_of_acted hs hsrc hdst htransmits hlistens, State.heard_of_not_isolated hne, State.settleRestart_begins]
    · exact ⟨_, rfl, rfl, rfl⟩
    · have hnone : s.link.lineDriven.queue.any Entry.waitingRecords = false :=
        List.any_eq_false.mpr fun x hx => by
          rw [Entry.waitingRecords_eq_false.mpr (hrecords x hx)]; exact Bool.false_ne_true
      exact (congrArg Link.awaitedLeft (Link.enqueue_dropped (l := s.link.lineDriven)
        (e := ⟨.answer ⟨src, tag, 13, .accepted, 255, .plain⟩, true, 0, false⟩) hfull hnone rfl)).trans (Bool.or_true _)
    · rfl
  · have hleft : s.link.leave.awaitedLeft = true := by
      simp only [Link.leave, Bool.or_eq_true, List.any_eq_true]
      exact .inr ⟨e, he, by simp [hattempt, hawaited]⟩
    refine ⟨?_, fun ⟨x, hx, hxattempt, hcollisions⟩ => ?_⟩
    · have hexec : exec .frameCompleted s = .next (State.afterLeaving { s with
          link := { s.link.leave with overflowAlarm := s.link.leave.overflowAlarm && !overflow } }) := by
        show execFrameCompleted s = _
        simp only [execFrameCompleted, htx]
      exact ⟨_, hexec.trans (congrArg _ (State.afterLeaving_begins (im := im) (s := { s with
        link := { s.link.leave with overflowAlarm := s.link.leave.overflowAlarm && !overflow } }) hs hleft hpending)),
        rfl, rfl⟩
    · have hlast : (s.link.queue.any fun e => e.inAttempt && decide (collisionLimit ≤ e.collisions + 1)) = true :=
        List.any_eq_true.mpr ⟨x, hx, by simp [hxattempt, collisionLimit, hcollisions]⟩
      have hexec : exec .frameCollided s =
          .next ({ s with link := s.link.leave } : State).countRejectedFrame.afterLeaving := by
        show execFrameCollided s = _
        simp only [execFrameCollided, htx]
        exact if_pos hlast
      exact ⟨_, hexec.trans (congrArg _ (State.afterLeaving_begins (im := im)
        (s := ({ s with link := s.link.leave } : State).countRejectedFrame) hs hleft hpending)), rfl, rfl⟩
  · have hexec : exec .conflictFrame s = .next s.countAccepted.conflict.settleRestart := by
      show execConflictFrame s = _
      simp only [execConflictFrame, hs, hlistens, if_true]
    have hsilent : s.stn ≠ .silent := fun h => by rw [h] at hstn; cases hstn
    rw [hexec, State.settleRestart_begins]
    · exact ⟨_, rfl, rfl, rfl⟩
    · by_cases hisolated : s.stn = .isolated
      · rw [State.conflict_of_isolated hisolated]
        exact Link.enqueue_awaited hqueued _
      · rw [State.conflict_of_joined hsilent hisolated]
        obtain ⟨e, he, hawaited, -⟩ := hqueued
        simp only [Link.empty, Bool.or_eq_true, List.any_eq_true]
        exact .inr ⟨e, he, hawaited⟩
    · by_cases hisolated : s.stn = .isolated
      · rw [State.conflict_of_isolated hisolated]; exact hpending
      · rw [State.conflict_of_joined hsilent hisolated]; exact hpending

/-! ### QUERY -/

/-- A QUERY queues its ANSWER and changes nothing else (R134, R150). -/
theorem exec_query_of_answer {s : State} {im : Image} {src dst : Byte} (hs : s.service = some im)
    (hsrc : src.toNat ≠ im.station.number) (hdst : dst.toNat = im.station.number ∨ dst = 255)
    (hstn : s.stn.transmits = true) (hlistens : s.link.listens = true) {tag subject p1 p2 ch : Byte} {code : ResultCode}
    {x : AnswerContent} (h : s.heard.queryAnswer im subject p1 p2 = (code, ch, x)) :
    exec (.query src dst tag subject p1 p2) s = .next (State.settleRestart { s.heard with
      link := s.heard.link.enqueue ⟨.answer ⟨src, tag, 15, code, ch, x⟩, false, 0, false⟩ }) := by
  rw [exec_query, State.requesting_acted hs hsrc hdst hstn hlistens, h, State.answer_of_driven s.heard_line_ne]

section QueryAnswer

variable {s : State} {im : Image} {p1 p2 : Byte}

theorem State.queryAnswer_unnamed {subject : Byte} (hsubject : subject = 1 ∨ subject = 4) (h : im.named p1 = none) :
    s.queryAnswer im subject p1 p2 = (.refusedChannel, p1, .plain) := by
  unfold State.queryAnswer
  rcases hsubject with rfl | rfl
  · rw [if_pos rfl, h]
  · rw [if_neg (by decide), if_neg (by decide), if_neg (by decide), if_pos rfl, h]

theorem State.queryAnswer_channel {k : Fin 4} (h : im.named p1 = some k) : s.queryAnswer im 1 p1 p2 =
    ((viewOf p2).elim (.refusedValue, p1, .plain) fun w => (.accepted, p1, .channel (s.channelReport im k w))) := by
  unfold State.queryAnswer
  rw [if_pos rfl, h]
  cases viewOf p2 <;> rfl

theorem State.queryAnswer_lockout {k : Fin 4} (h : im.named p1 = some k) :
    s.queryAnswer im 4 p1 p2 = (.accepted, p1, .lockout (s.channel k).sup.lockout) := by
  unfold State.queryAnswer
  rw [if_neg (by decide), if_neg (by decide), if_neg (by decide), if_pos rfl, h]

theorem State.queryAnswer_peers : s.queryAnswer im 3 p1 p2 = if p1.toNat ≤ 31
    then (.accepted, 255, .peers s.peer.table.length (s.peer.walkFrom p1.toNat)) else (.refusedValue, 255, .plain) := by
  unfold State.queryAnswer
  rw [if_neg (by decide), if_neg (by decide), if_pos rfl]

theorem State.queryAnswer_unknown {subject : Byte} (h1 : subject ≠ 1) (h2 : subject ≠ 2) (h3 : subject ≠ 3)
    (h4 : subject ≠ 4) (h5 : subject ≠ 5) : s.queryAnswer im subject p1 p2 = (.refusedValue, 255, .plain) := by
  unfold State.queryAnswer
  rw [if_neg h1, if_neg h2, if_neg h3, if_neg h4, if_neg h5]

end QueryAnswer

theorem State.heard_channelReport (s : State) (im : Image) (k : Fin 4) (w : View) :
    s.heard.channelReport im k w = s.channelReport im k w := by
  rw [State.heard_eq]
  rfl

/-- Settles O43, subject by subject. -/
theorem aQueryIsAnswered : Obligations.AQueryIsAnswered := by
  intro s im src dst tag subject p1 p2 hs hsrc hdst hstn hlistens
  have hanswers := fun {code : ResultCode} {ch : Byte} {x : AnswerContent} =>
    exec_query_of_answer hs hsrc hdst hstn hlistens (tag := tag) (subject := subject) (p1 := p1) (p2 := p2) (code := code)
      (ch := ch) (x := x)
  refine ⟨fun hsub hnone => hanswers (State.queryAnswer_unnamed (.inl hsub) (Image.named_eq_none hnone)),
    fun hsub k hch hk => ⟨fun h0 h1 => hanswers ?_, fun hview => ?_⟩, fun hsub => ?_, fun hsub hlow => hanswers ?_,
    fun hsub hhigh => hanswers ?_, fun hsub hnone => hanswers (State.queryAnswer_unnamed (.inr hsub) (Image.named_eq_none hnone)),
    fun hsub k hch hk => hanswers ?_, fun hsub => hanswers ?_,
    fun h1 h2 h3 h4 h5 => hanswers (State.queryAnswer_unknown h1 h2 h3 h4 h5)⟩
  · rw [hsub, State.queryAnswer_channel (Image.named_eq_some hch hk), viewOf, if_neg h0, if_neg h1]
    rfl
  · have hw : viewOf p2 = some (if p2 = 0 then .active else .pending) := by
      unfold viewOf
      split
      · rfl
      · rw [if_pos (hview.resolve_left ‹_›)]
    refine ⟨s.heard.channelReport im k (if p2 = 0 then .active else .pending), hanswers ?_, ?_⟩
    · rw [hsub, State.queryAnswer_channel (Image.named_eq_some hch hk), hw]
      rfl
    · have hactive : p2 = 0 → (if p2 = 0 then View.active else .pending) = .active := fun h => if_pos h
      have hpending : p2 = 1 → (if p2 = 0 then View.active else .pending) = .pending := fun h =>
        if_neg (by rw [h]; decide)
      rw [State.heard_channelReport]
      generalize (if p2 = 0 then View.active else .pending) = w at *
      refine ⟨rfl, rfl, rfl, rfl, rfl, rfl, rfl, rfl, rfl, rfl, rfl, rfl, rfl, rfl, rfl, rfl, rfl, rfl, rfl, rfl, rfl, rfl,
        rfl, rfl, rfl, ?_, fun a ha => ?_, fun ha => ?_, rfl, fun h => ?_, fun h => ?_⟩
      · simp only [State.channelReport, Channel.estimate, beq_iff_eq]
        rfl
      · simp only [State.channelReport, ha, Option.bind_some]
      · simp only [State.channelReport, ha, Option.bind_none]
      · rw [hactive h]
        exact ⟨rfl, rfl, rfl, rfl, rfl⟩
      · rw [hpending h]
        refine ⟨rfl, rfl, fun i hi => ?_, fun hi => ?_, fun hi => ?_, fun v hv => ?_, fun hv => ?_, fun hv => ?_⟩ <;>
          simp [State.channelReport, DoseEngine.viewIndex, DoseEngine.viewOverride, DoseEngine.viewTarget,
            TargetItem.override, *]
  · subst hsub
    refine ⟨s.heard.groupReports im, hanswers ?_, fun g => ?_⟩
    · rw [State.heard_eq]; rfl
    · rw [State.groupReports, Four.get_ofFn, State.heard_eq]
      rfl
  · rw [hsub, State.queryAnswer_peers, if_pos hlow, State.heard_eq]
    rfl
  · rw [hsub, State.queryAnswer_peers, if_neg (by omega)]
  · rw [hsub, State.queryAnswer_lockout (Image.named_eq_some hch hk), s.heard_channel]
  · subst hsub
    rw [State.heard_eq]
    rfl

end Sys2Proof.Machine
end

section
/-! CLEAR FEEDER and RELEASE (Chapters 6, 7 and 8): what each makes of the channel, its ALARM before its ANSWER, and the
statement about them. -/

namespace Sys2Proof.Machine

/-! ### The channel after an accepted request -/

section Accepted

variable {cc : ChannelConfig} {v : Nat} {idle : Bool} {c : Channel}

/-- The state without a lockout condition and without FEEDER FAULT (R111). -/
theorem Supervisor.derive_of_cleared {p : Supervisor} (hh : p.highHigh ≠ .active) (hr : p.runOn ≠ .active)
    (hf : p.feederFault ≠ .active) :
    p.derive idle = if p.high = .active then .held else if idle = true then .standby else .dosing := by
  rw [Supervisor.derive_eq, if_neg (not_or.mpr ⟨hh, hr⟩), if_neg hf]

theorem Supervisor.derive_eq_faulted {p : Supervisor} (h : p.derive idle = .faulted) :
    p.highHigh ≠ .active ∧ p.runOn ≠ .active ∧ p.feederFault = .active := by
  rw [Supervisor.derive_eq] at h
  split_ifs at h with hlocked hfault
  exact ⟨fun hh => hlocked (.inl hh), fun hr => hlocked (.inr hr), hfault⟩

/-- CLEAR FEEDER on a FAULTED channel: the fault and the list go, and the channel leaves FAULTED (R105, R124). -/
theorem supervise_clearFeeder (hst : c.state = c.sup.derive idle) (h : c.state = .faulted) :
    supervise cc v idle c c.clearFeeder = { c with
      state := if c.sup.high = .active then .held else if idle = true then .standby else .dosing
      sup := { c.sup with feederFault := .clear }
      feeder := { c.feeder with strokes := [], misses := 0, inh := false } } := by
  obtain ⟨hh, hr, -⟩ := Supervisor.derive_eq_faulted (hst.symm.trans h)
  have hraised : anyBecameActive c.sup c.clearFeeder.sup = false := anyBecameActive_eq_false id id id id nofun id
  have hderive : c.clearFeeder.sup.derive idle =
      if c.sup.high = .active then .held else if idle = true then .standby else .dosing :=
    Supervisor.derive_of_cleared hh hr nofun
  rw [supervise_of_nothing_raised hst hraised, hderive]
  have hinh : ((if c.sup.high = .active then ChannelState.held else if idle = true then .standby else .dosing) ==
      .locked) = false := by split_ifs <;> rfl
  rw [hinh]
  rfl

/-- RELEASE on a LOCKED channel: every condition and the list go, and the channel leaves LOCKED (R126). -/
theorem supervise_releaseLock (h : c.state = .locked) (stale : Bool) :
    supervise cc v idle c (c.releaseLock cc stale) = { c with
      state := if idle = true then .standby else .dosing
      sup := c.sup.released stale
      dose := { c.dose with
        eest := if cc.kind = .chlorine then (cc.profiles.get c.dose.activeIndex).e0 else c.dose.eest }
      feeder := { c.feeder with strokes := [], misses := 0, ac := 0, inh := false }
      iv := { c.iv with
        condActive := if (c.sup.released stale).stale = .active ∧ c.sup.stale ≠ .active then true
          else c.iv.condActive } } := by
  have hderive : (c.releaseLock cc stale).sup.derive idle = if idle = true then .standby else .dosing :=
    (Supervisor.derive_of_cleared (by simp [Channel.releaseLock, Supervisor.released])
      (by simp [Channel.releaseLock, Supervisor.released]) (by simp [Channel.releaseLock, Supervisor.released])).trans
      (if_neg (by simp [Channel.releaseLock, Supervisor.released]))
  have hne : (if idle = true then ChannelState.standby else .dosing) ≠ .locked := by split <;> nofun
  have hraised : anyBecameActive c.sup (c.sup.released stale) =
      decide ((c.sup.released stale).stale = .active ∧ c.sup.stale ≠ .active) := by
    rw [Bool.eq_iff_iff, anyBecameActive_iff, decide_eq_true_iff]
    simp [Supervisor.released, and_comm]
  have hdosing : ¬ (c.state = .dosing ∧ (if idle = true then ChannelState.standby else .dosing) ≠ .dosing) := by
    rw [h]; exact fun hb => by cases hb.1
  have hdose : c.dose.resetEstimate cc = { c.dose with
      eest := if cc.kind = .chlorine then (cc.profiles.get c.dose.activeIndex).e0 else c.dose.eest } := by
    unfold DoseEngine.resetEstimate
    split <;> rfl
  rw [supervise_eq hderive, lockoutAfter_of_not_locked hne, if_neg hdosing, if_neg hdosing, decide_eq_false hne]
  simp only [Channel.releaseLock, hraised, hdose, FeederDrive.forget]
  by_cases hs : (c.sup.released stale).stale = .active ∧ c.sup.stale ≠ .active
  · rw [if_pos hs, decide_eq_true hs, Bool.or_true]
  · rw [if_neg hs, decide_eq_false hs, Bool.or_false]

end Accepted

/-- What the RELEASE asks of the causes (R125). -/
theorem Supervisor.causeGone_iff {cc : ChannelConfig} {p : Supervisor} : p.causeGone cc = true ↔
    (p.highHigh = .active → (∃ r, p.lastResidual = some r ∧ r < cc.hhLimit) ∧ p.stale = .clear) ∧
      (p.runOn = .active → p.quietTimer = none) := by
  simp [Supervisor.causeGone, imp_iff_not_or, Option.any_eq_true]

/-- The analyzer of a channel is STALE (R126). -/
theorem State.analyzerStale_iff {s : State} {cc : ChannelConfig} : s.analyzerStale cc = true ↔
    ∃ a, cc.analyzer = some a ∧ (s.intake.records.get a).fresh = false := by
  simp [State.analyzerStale, Option.any_eq_true]

/-! ### The ALARM, then the ANSWER -/

/-- An event on a channel within the arrival of a request, and the ANSWER after its ALARM (R129, R134). -/
theorem State.heard_event (s : State) (im : Image) (k : Fin 4) (after : Channel) (cause : AlarmCause) (src tag : Byte)
    (kind : Nat) (code : ResultCode) (ch : Byte)
    (hcalled : alarmCalled (s.channel k) (supervise (im.channel k) s.flow.v s.flow.idle (s.channel k) after) = true) :
    let t := (s.heard.settleChannel im k after (some cause)).answer src tag kind code ch .plain
    s.heard.EventOn t k ∧ t.channel k = supervise (im.channel k) s.flow.v s.flow.idle (s.channel k) after ∧
      t.freeCount = s.freeCount ∧
      t.link = (s.heard.link.enqueue ⟨(t.channel k).alarmOf k cause (s.channel k).state, false, 0, false⟩).enqueue
        ⟨.answer ⟨src, tag, kind, code, ch, .plain⟩, false, 0, false⟩ := by
  have hflow : s.heard.flow = s.flow := by rw [State.heard_eq]
  have hfree : s.heard.freeCount = s.freeCount := by rw [State.heard_eq]
  have hd : (s.heard.settleChannel im k after (some cause)).channel k =
      supervise (im.channel k) s.flow.v s.flow.idle (s.channel k) after := by
    rw [State.settleChannel_channel_same, hflow, s.heard_channel]
  obtain ⟨hframe, hothers, hfault⟩ := s.heard.settleChannel_eventOn im k after (some cause)
  obtain ⟨hlink, hcount⟩ := s.heard.settleChannel_queued im k after (c := cause) (by rw [hd, s.heard_channel]; exact hcalled)
  rw [State.enqueue_of_driven _ _ s.heard_line_ne, s.heard_channel] at hlink
  rw [State.enqueue_of_driven _ _ s.heard_line_ne] at hcount
  have hline : (s.heard.settleChannel im k after (some cause)).link.line ≠ .idle := by
    rw [hlink, Link.enqueue_line]; exact s.heard_line_ne
  rw [State.answer_of_driven hline]
  refine ⟨⟨?_, hothers, hfault⟩, hd, hcount.trans hfree, congrArg (Link.enqueue · _) hlink⟩
  generalize (s.heard.settleChannel im k after (some cause)).link.enqueue
    ⟨.answer ⟨src, tag, kind, code, ch, .plain⟩, false, 0, false⟩ = l
  exact congrArg (fun u : State => { u with link := l }) hframe

/-- Settles O41: each request refused, and each accepted. -/
theorem aFaultIsClearedAndALockReleased : Obligations.AFaultIsClearedAndALockReleased := by
  intro s im src dst tag ch k hs hsrc hdst hstn hlistens hch hk hder
  have hst := hder.state_eq hs hk
  have hclear : exec (.clearFeeder src dst tag ch) s = .next ((s.heard.takeClearFeeder im k).2.answer src tag 11
      (s.heard.takeClearFeeder im k).1 ch .plain).settleRestart := by
    rw [exec_clearFeeder, State.requesting_named hs hsrc hdst hstn hlistens hch hk (act := fun im k u =>
      (u.takeClearFeeder im k).2.answer src tag 11 (u.takeClearFeeder im k).1 ch .plain)]
  have hrelease : exec (.release src dst tag ch) s = .next ((s.heard.takeRelease im k).2.answer src tag 12
      (s.heard.takeRelease im k).1 ch .plain).settleRestart := by
    rw [exec_release, State.requesting_named hs hsrc hdst hstn hlistens hch hk (act := fun im k u =>
      (u.takeRelease im k).2.answer src tag 12 (u.takeRelease im k).1 ch .plain)]
  have hrefused : ∀ code kind, (State.answer s.heard src tag kind code ch .plain).settleRestart = State.settleRestart
      { s.heard with link := s.heard.link.enqueue ⟨.answer ⟨src, tag, kind, code, ch, .plain⟩, false, 0, false⟩ } :=
    fun code kind => by rw [State.answer_of_driven s.heard_line_ne]
  have hgone := Supervisor.causeGone_iff (cc := im.channel k) (p := (s.channel k).sup)
  refine ⟨fun h => ?_, fun h => ?_, fun h hpresent => ?_, fun h => ?_, fun h hpast => ?_⟩
  · rw [hclear, State.takeClearFeeder, s.heard_channel, if_neg h, hrefused]
  · rw [hrelease, State.takeRelease, s.heard_channel, if_neg h, hrefused]
  · rw [hrelease, State.takeRelease, s.heard_channel, if_pos h, if_neg (mt hgone.mp hpresent), hrefused]
  · rw [hclear, State.takeClearFeeder, s.heard_channel, if_pos h]
    obtain ⟨hevent, hd, hfree, hlink⟩ := s.heard_event im k (s.channel k).clearFeeder .clearFeeder src tag 11 .accepted ch
      (alarmCalled_of_crossed (by
        rw [supervise_clearFeeder hst h]
        simp [conditionsCrossed, crossedActive, (Supervisor.derive_eq_faulted (hst.symm.trans h)).2.2]))
    rw [supervise_clearFeeder hst h] at hd
    rw [hd, h] at hlink
    refine ⟨_, rfl, hevent, ?_⟩
    dsimp only
    rw [hd]
    exact ⟨rfl, rfl, rfl, rfl, rfl, hfree, hlink⟩
  · have hstale : s.heard.analyzerStale (im.channel k) = s.analyzerStale (im.channel k) := by rw [State.heard_eq]; rfl
    rw [hrelease, State.takeRelease, s.heard_channel, if_pos h, if_pos (hgone.mpr hpast), hstale]
    obtain ⟨hevent, hd, hfree, hlink⟩ := s.heard_event im k ((s.channel k).releaseLock (im.channel k)
      (s.analyzerStale (im.channel k))) .release src tag 12 .accepted ch (by
        rw [supervise_releaseLock h]
        simp only [alarmCalled, h]
        split <;> simp [ChannelState.alarmed])
    rw [supervise_releaseLock h] at hd
    rw [hd, h] at hlink
    refine ⟨_, rfl, hevent, ?_⟩
    dsimp only
    rw [hd]
    exact ⟨rfl, rfl, rfl, rfl, rfl, if_congr State.analyzerStale_iff rfl rfl, rfl, rfl, rfl, rfl, rfl, rfl, rfl, rfl, rfl,
      rfl, rfl, hfree, hlink⟩

end Sys2Proof.Machine
end

section
/-! The transmit side (Chapter 10): the drop order, the choice of a frame, the ends of an attempt and contention, each with its
statement. -/

namespace Sys2Proof.Machine

/-! ### The drop order -/

theorem Entry.waitingRecords_iff {e : Entry} : e.waitingRecords = true ↔ e.inAttempt = false ∧ e.body.priority = 6 := by
  simp [Entry.waitingRecords]

theorem Entry.waitingAnswer_iff {e : Entry} : e.waitingAnswer = true ↔ e.inAttempt = false ∧ e.body.priority = 4 := by
  simp [Entry.waitingAnswer]

theorem Entry.waitingAt_iff {e : Entry} {p : Nat} : e.waitingAt p = true ↔ e.inAttempt = false ∧ e.body.priority = p := by
  simp [Entry.waitingAt]

/-- A test that says of each entry whether it waits at a priority fails where none does. -/
theorem bool_eq_false_of_iff {b : Bool} {w : Bool} {p q : Nat} (h : b = true ↔ w = false ∧ p = q) (hn : w = false → p ≠ q) :
    b = false := by
  rw [Bool.eq_false_iff, ne_eq, h]
  exact fun hb => hn hb.1 hb.2

theorem dropLastThat_append {p : Entry → Bool} {a b : List Entry} {e : Entry} (he : p e = true)
    (hb : ∀ x ∈ b, p x = false) : dropLastThat p (a ++ e :: b) = a ++ b := by
  have hreverse : (a ++ e :: b).reverse = b.reverse ++ e :: a.reverse := by simp
  rw [dropLastThat, hreverse, List.eraseP_append_right _ fun x hx => by simp [hb x (List.mem_reverse.mp hx)],
    List.eraseP_cons_of_pos he]
  simp

theorem find?_append_cons {p : Entry → Bool} {a b : List Entry} {e : Entry} (ha : ∀ x ∈ a, p x = false) (he : p e = true) :
    (a ++ e :: b).find? p = some e :=
  List.find?_eq_some_iff_append.mpr ⟨he, a, b, rfl, fun x hx => by simp [ha x hx]⟩

theorem eraseP_append_cons {p : Entry → Bool} {a b : List Entry} {e : Entry} (ha : ∀ x ∈ a, p x = false) (he : p e = true) :
    (a ++ e :: b).eraseP p = a ++ b := by
  rw [List.eraseP_append_right _ fun x hx => by simp [ha x hx], List.eraseP_cons_of_pos he]

/-- Settles O47, by the first case of the drop order that applies. -/
theorem theDropOrder : Obligations.TheDropOrder := by
  refine ⟨fun _ _ => rfl, fun l e => ⟨fun hroom => Link.enqueue_of_room e hroom, fun hfull pre x post hq hwaits hx hpost => ?_,
    fun hfull hnone => ?_⟩⟩
  · have hrecords : x.waitingRecords = true := Entry.waitingRecords_iff.mpr ⟨hwaits, hx⟩
    have hany : l.queue.any Entry.waitingRecords = true := List.any_eq_true.mpr ⟨x, by simp [hq], hrecords⟩
    unfold Link.enqueue
    rw [if_neg (by unfold queueCapacity; omega), if_pos hany, hq,
      dropLastThat_append hrecords fun y hy => bool_eq_false_of_iff Entry.waitingRecords_iff (hpost y hy)]
  · have hany : l.queue.any Entry.waitingRecords = false := List.any_eq_false.mpr fun y hy => by
      rw [bool_eq_false_of_iff Entry.waitingRecords_iff (hnone y hy)]; exact Bool.false_ne_true
    have hnot : ¬ l.queue.length < queueCapacity := by unfold queueCapacity; omega
    refine ⟨fun halarm pre x post hq hwaits hx hpre => ?_, fun halarm hnoAnswer => ?_,
      fun hother => Link.enqueue_dropped hfull hany hother⟩
    · have hanswer : x.waitingAnswer = true := Entry.waitingAnswer_iff.mpr ⟨hwaits, hx⟩
      have hpre' : ∀ y ∈ pre, y.waitingAnswer = false := fun y hy =>
        bool_eq_false_of_iff Entry.waitingAnswer_iff (hpre y hy)
      unfold Link.enqueue
      rw [if_neg hnot, if_neg (by simp [hany]), if_pos halarm, hq, find?_append_cons hpre' hanswer,
        eraseP_append_cons hpre' hanswer]
    · have hfind : l.queue.find? Entry.waitingAnswer = none := List.find?_eq_none.mpr fun y hy => by
        rw [bool_eq_false_of_iff Entry.waitingAnswer_iff (hnoAnswer y hy)]; exact Bool.false_ne_true
      unfold Link.enqueue
      rw [if_neg hnot, if_neg (by simp [hany]), if_pos halarm, hfind]

/-! ### The choice of a frame -/

theorem bestWaiting_eq {q : List Entry} {e : Entry} (he : e ∈ q) (hwaits : e.inAttempt = false)
    (hleast : ∀ x ∈ q, x.inAttempt = false → e.body.priority ≤ x.body.priority) : bestWaiting q = some e.body.priority := by
  cases h : bestWaiting q with
  | none => rw [bestWaiting_eq_none.mp h e he] at hwaits; cases hwaits
  | some p =>
    obtain ⟨⟨x, hx, hat⟩, hp⟩ := bestWaiting_eq_some h
    obtain ⟨hxwaits, hxp⟩ := Entry.waitingAt_iff.mp hat
    have := hleast x hx hxwaits
    have := hp e he hwaits
    rw [show p = e.body.priority by omega]

/-- The attempt of the oldest waiting entry of its priority (R157, R161). -/
theorem Link.attemptEntry_of_first {l : Link} {own : Nat} {pre post : List Entry} {e : Entry}
    (hq : l.queue = pre ++ e :: post) (hwaits : e.inAttempt = false)
    (hfirst : ∀ x ∈ pre, x.inAttempt = false → x.body.priority ≠ e.body.priority) :
    l.attemptEntry own e.body.priority = { l with
      queue := pre ++ { e with inAttempt := true } :: post
      tx := .entry (e.body.isAlarm && l.overflowAlarm) (e.body.wire own (e.body.isAlarm && l.overflowAlarm))
      line := .own } := by
  have he : e.waitingAt e.body.priority = true := Entry.waitingAt_iff.mpr ⟨hwaits, rfl⟩
  have hpre : ∀ x ∈ pre, x.waitingAt e.body.priority = false := fun x hx =>
    bool_eq_false_of_iff Entry.waitingAt_iff (hfirst x hx)
  unfold Link.attemptEntry
  rw [hq, find?_append_cons hpre he, markFirst_append hpre he]
  rfl

theorem Link.beginAttempt_of_entry {l : Link} {own p : Nat} (hbest : bestWaiting l.queue = some p)
    (hslot : l.slot = none ∨ p < 2) : l.beginAttempt own = l.attemptEntry own p := by
  unfold Link.beginAttempt
  rw [hbest]
  cases hs : l.slot with
  | none => rfl
  | some a => exact if_pos (hslot.resolve_left (by rw [hs]; nofun))

theorem Link.beginAttempt_of_demand {l : Link} {own : Nat} {a : Announcement} (hslot : l.slot = some a)
    (hbest : ∀ p, bestWaiting l.queue = some p → 2 ≤ p) : l.beginAttempt own = l.attemptDemand own a := by
  unfold Link.beginAttempt
  rw [hslot]
  cases hb : bestWaiting l.queue with
  | none => rfl
  | some p => exact if_neg (by have := hbest p hb; omega)

theorem Link.beginAttempt_of_none {l : Link} {own : Nat} (hslot : l.slot = none)
    (hall : ∀ x ∈ l.queue, x.inAttempt = true) : l.beginAttempt own = l := by
  unfold Link.beginAttempt
  rw [hslot, bestWaiting_eq_none.mpr hall]

theorem StationState.transmits_iff {x : StationState} (h : x.inService = true) : x.transmits = true ↔ x ≠ .silent := by
  cases x <;> simp_all [StationState.inService, StationState.transmits]

theorem State.stationNumber_of_service {s : State} {im : Image} (hs : s.service = some im) :
    s.stationNumber = im.station.number := by
  rw [State.stationNumber, (State.service_eq_some.mp hs).2]
  rfl

/-- The line has become idle (R157). -/
def Link.lineIdle (l : Link) : Link := { l with line := .idle }

/-- TRANSMIT_ATTEMPT in service, the transmitter idle (R157). -/
theorem exec_transmitAttempt_of_idle {s : State} {im : Image} (hs : s.service = some im) (htx : s.link.tx = .idle) :
    exec .transmitAttempt s = .next { s with
      link := if s.stn.transmits = true then s.link.lineIdle.beginAttempt im.station.number else s.link.lineIdle } := by
  show execTransmitAttempt s = _
  unfold execTransmitAttempt
  rw [if_pos (by simp [htx])]
  simp only [hs, Option.isSome_some, Bool.true_and, State.stationNumber_of_service hs]
  rfl

/-- Settles O45: the choice of a frame, and the test that makes the same choice. -/
theorem anAttemptTakesTheFirstFrame : Obligations.AnAttemptTakesTheFirstFrame := by
  refine ⟨fun s htx => if_neg (by simpa using htx), fun s im hs htx => ?_, fun s im hs => ?_⟩
  · have hserved := (State.service_eq_some.mp hs).1
    have hexec := exec_transmitAttempt_of_idle hs htx
    have hsends : s.stn ≠ .silent → exec .transmitAttempt s =
        .next { s with link := s.link.lineIdle.beginAttempt im.station.number } := fun hsilent => by
      rw [hexec, if_pos ((StationState.transmits_iff hserved).mpr hsilent)]
    refine ⟨fun hsilent => ?_, fun hsilent hslot hall => ?_, fun hsilent pre e post hq hwaits hleast hfirst hslot => ?_,
      fun hsilent a hslot hleast => ?_⟩
    · rw [hexec, if_neg (by rw [hsilent]; nofun)]
      rfl
    · rw [hsends hsilent, Link.beginAttempt_of_none (l := s.link.lineIdle) hslot hall]
      rfl
    · have hbest : bestWaiting s.link.queue = some e.body.priority := bestWaiting_eq (by simp [hq]) hwaits hleast
      rw [hsends hsilent, Link.beginAttempt_of_entry (l := s.link.lineIdle) hbest hslot,
        Link.attemptEntry_of_first (l := s.link.lineIdle) hq hwaits hfirst]
      rfl
    · rw [hsends hsilent, Link.beginAttempt_of_demand (l := s.link.lineIdle) hslot fun p hp => by
        obtain ⟨⟨x, hx, hat⟩, -⟩ := bestWaiting_eq_some hp
        obtain ⟨hwaits, rfl⟩ := Entry.waitingAt_iff.mp hat
        exact hleast x hx hwaits]
      rfl
  · have hserved := (State.service_eq_some.mp hs).1
    have hmay : s.mayAttempt = true ↔ s.stn ≠ .silent ∧ s.link.tx = .idle ∧ s.link.line = .idle ∧
        (s.link.slot ≠ none ∨ ∃ e ∈ s.link.queue, e.inAttempt = false) := by
      rw [State.mayAttempt_iff, StationState.transmits_iff hserved, hs]
      simp [Link.anyWaiting, Option.isSome_iff_ne_none]
    dsimp only
    rw [← hmay]
    refine ⟨fun hnot => ?_, fun hmay' => ?_⟩
    · rcases s.attemptTest_cases with ⟨-, h⟩ | ⟨h, -⟩ | ⟨h, -⟩
      · exact h
      · exact absurd h hnot
      · exact absurd h hnot
    · obtain ⟨-, htransmits, htx, hline, -⟩ := State.mayAttempt_iff.mp hmay'
      rcases s.attemptTest_cases with ⟨h, -⟩ | ⟨-, -, h⟩ | ⟨-, -, h⟩
      · exact absurd hmay' (by simp [h])
      · refine .inr ⟨_, exec_transmitAttempt_of_idle hs htx, ?_⟩
        have hsame : s.link.lineIdle = s.link := by rw [Link.lineIdle, ← hline]
        rw [h, if_pos htransmits, hsame, State.stationNumber_of_service hs]
      · exact .inl h

/-! ### The ends of an attempt -/

theorem waitAgain_append {f : Nat → Nat} {pre post : List Entry} {e : Entry} (he : e.inAttempt = true)
    (hothers : ∀ x ∈ pre ++ post, x.inAttempt = false) :
    waitAgain f (pre ++ e :: post) = pre ++ { e with inAttempt := false, collisions := f e.collisions } :: post := by
  have hsame : ∀ q : List Entry, (∀ x ∈ q, x.inAttempt = false) → waitAgain f q = q := fun q hq =>
    (List.map_congr_left fun x hx => by simp [hq x hx]).trans (List.map_id q)
  have hpre := hsame pre fun x hx => hothers x (List.mem_append_left _ hx)
  have hpost := hsame post fun x hx => hothers x (List.mem_append_right _ hx)
  unfold waitAgain at hpre hpost ⊢
  rw [List.map_append, List.map_cons, hpre, hpost, if_pos he]

/-- The entry IN ATTEMPT is the one that a test of such an entry finds. -/
theorem any_inAttempt_append {pre post : List Entry} {e : Entry} (he : e.inAttempt = true)
    (hothers : ∀ x ∈ pre ++ post, x.inAttempt = false) (p : Entry → Bool) :
    ((pre ++ e :: post).any fun x => x.inAttempt && p x) = p e := by
  have hnone : ∀ q : List Entry, (∀ x ∈ q, x.inAttempt = false) → (q.any fun x => x.inAttempt && p x) = false :=
    fun q hq => List.any_eq_false.mpr fun x hx => by simp [hq x hx]
  rw [List.any_append, List.any_cons, hnone pre fun x hx => hothers x (List.mem_append_left _ hx),
    hnone post fun x hx => hothers x (List.mem_append_right _ hx), he]
  simp

theorem Link.leave_append {l : Link} {pre post : List Entry} {e : Entry} (hq : l.queue = pre ++ e :: post)
    (he : e.inAttempt = true) (hothers : ∀ x ∈ pre ++ post, x.inAttempt = false) : l.leave = { l with
      queue := pre ++ post, tx := .idle, line := .own, awaitedLeft := l.awaitedLeft || e.awaited } := by
  unfold Link.leave
  rw [hq, any_inAttempt_append he hothers,
    eraseP_append_cons (fun x hx => hothers x (List.mem_append_left _ hx)) he]
  rfl

theorem State.afterLeaving_of_service {s : State} {im : Image} (hs : s.service = some im) :
    s.afterLeaving = (s.packingTest im).settleRestart := by
  unfold State.afterLeaving
  rw [hs]

theorem State.returnDemand_of_none {s : State} {a : Announcement} (h : s.link.slot = none) :
    s.returnDemand a = { s with link := { s.link with slot := some a } } := by
  unfold State.returnDemand
  rw [h]

theorem State.returnDemand_of_some {s : State} {a : Announcement} (h : s.link.slot ≠ none) :
    s.returnDemand a = { s with recs := { s.recs with coalesced := s.recs.coalesced + 1 } } := by
  obtain ⟨x, hx⟩ := Option.ne_none_iff_exists'.mp h
  unfold State.returnDemand
  rw [hx]

/-- Settles O46: lost, collided and completed, for an entry and for a DEMAND. -/
theorem anAttemptEndsInOneOfThreeWays : Obligations.AnAttemptEndsInOneOfThreeWays := by
  refine ⟨fun s im pre post e overflow wire hs htx hq he hothers => ?_, fun s a overflow wire htx => ?_⟩
  · have hlast := any_inAttempt_append he hothers fun e => decide (collisionLimit ≤ e.collisions + 1)
    rw [← hq] at hlast
    have hleave := Link.leave_append hq he hothers
    refine ⟨?_, fun hfew => ?_, fun hmany => ?_, ?_⟩
    · show execFrameLost s = _
      simp only [execFrameLost, htx]
      rw [hq, waitAgain_append he hothers]
      rfl
    · show execFrameCollided s = _
      simp only [execFrameCollided, htx]
      rw [if_neg (by rw [hlast]; simp [collisionLimit]; omega), hq, waitAgain_append he hothers]
      rfl
    · show execFrameCollided s = _
      simp only [execFrameCollided, htx]
      rw [if_pos (by rw [hlast]; simp [collisionLimit]; omega), hleave]
      exact congrArg _ (State.afterLeaving_of_service hs)
    · show execFrameCompleted s = _
      simp only [execFrameCompleted, htx]
      rw [hleave]
      exact congrArg _ (State.afterLeaving_of_service hs)
  · have hlost : exec .frameLost s = .next (State.returnDemand { s with link := s.link.stopDriving .driven } a) := by
      show execFrameLost s = _
      simp only [execFrameLost, htx]
    have hcollided : exec .frameCollided s = .next (if collisionLimit ≤ a.collisions + 1
        then State.countRejectedFrame { s with link := s.link.stopDriving .own }
        else State.returnDemand { s with link := s.link.stopDriving .own } { a with collisions := a.collisions + 1 }) := by
      show execFrameCollided s = _
      simp only [execFrameCollided, htx]
      split <;> rfl
    have hfew : a.collisions < 2 → ¬ collisionLimit ≤ a.collisions + 1 := fun h => by unfold collisionLimit; omega
    refine ⟨fun hslot => ?_, fun hslot => ?_, fun h hslot => ?_, fun h hslot => ?_, fun h => ?_, ?_⟩
    · rw [hlost, State.returnDemand_of_none (s := { s with link := s.link.stopDriving .driven }) hslot]
      rfl
    · rw [hlost, State.returnDemand_of_some (s := { s with link := s.link.stopDriving .driven }) hslot]
      rfl
    · rw [hcollided, if_neg (hfew h), State.returnDemand_of_none (s := { s with link := s.link.stopDriving .own }) hslot]
      rfl
    · rw [hcollided, if_neg (hfew h), State.returnDemand_of_some (s := { s with link := s.link.stopDriving .own }) hslot]
      rfl
    · rw [hcollided, if_pos (by unfold collisionLimit; omega)]
      rfl
    · show execFrameCompleted s = _
      simp only [execFrameCompleted, htx]
      rfl

/-! ### Contention -/

/-- The number that a list of bits makes, the first of them the highest. -/
def bitsValue : List Bool → Nat
  | [] => 0
  | b :: bs => b.toNat * 2 ^ bs.length + bitsValue bs

theorem bitsValue_lt (bs : List Bool) : bitsValue bs < 2 ^ bs.length := by
  induction bs with
  | nil => decide
  | cons b bs ih =>
    rw [bitsValue, List.length_cons, Nat.pow_succ]
    cases b <;> simp <;> omega

theorem bitsValue_append (xs ys : List Bool) : bitsValue (xs ++ ys) = bitsValue xs * 2 ^ ys.length + bitsValue ys := by
  induction xs with
  | nil => simp [bitsValue]
  | cons x xs ih => rw [List.cons_append, bitsValue, bitsValue, ih, List.length_append]; ring

theorem bitsValue_byteBits (b : Byte) : bitsValue (byteBits b) = b.toNat := by
  have hlt := b.isLt
  have hbit : ∀ i, (b.getLsbD i).toNat = b.toNat / 2 ^ i % 2 := fun i => by
    rw [← BitVec.testBit_toNat, Nat.toNat_testBit]
  simp only [byteBits, bitsValue, hbit, List.length_cons, List.length_nil]
  omega

/-- Of two lists of bits of one length, that of the lower number has the first bit that differs dominant (R155). -/
theorem exists_first_difference {xs ys : List Bool} (hlen : xs.length = ys.length) (hlt : bitsValue xs < bitsValue ys) :
    ∃ n, n < xs.length ∧ xs.take n = ys.take n ∧ xs[n]? = some false ∧ ys[n]? = some true := by
  induction xs generalizing ys with
  | nil => cases List.length_eq_zero_iff.mp hlen.symm; exact absurd hlt (lt_irrefl _)
  | cons x xs ih =>
    cases ys with
    | nil => cases hlen
    | cons y ys =>
      have hlen' : xs.length = ys.length := Nat.succ.inj hlen
      have hx := bitsValue_lt xs
      have hy := bitsValue_lt ys
      simp only [bitsValue, hlen'] at hlt hx
      by_cases hxy : x = y
      · subst hxy
        obtain ⟨n, hn, htake, hxn, hyn⟩ := ih hlen' (by omega)
        exact ⟨n + 1, Nat.succ_lt_succ hn, by simp [htake], by simpa using hxn, by simpa using hyn⟩
      · refine ⟨0, by simp, rfl, ?_⟩
        cases x <;> cases y <;> simp_all
        omega

/-- The station that drives a recessive bit where the other drives a dominant one has lost, within the first two bytes
(R158). -/
theorem judgeBits_lost {n pos : Nat} {won lost : List Bool} (htake : won.take n = lost.take n)
    (hwon : won[n]? = some false) (hlost : lost[n]? = some true) (hpos : pos + n < 16) :
    judgeBits pos lost (List.zipWith lineLevel won lost) = .lost := by
  induction n generalizing pos won lost with
  | zero =>
    cases won with
    | nil => cases hwon
    | cons w ws =>
      cases lost with
      | nil => cases hlost
      | cons l ls =>
        obtain rfl : w = false := by simpa using hwon
        obtain rfl : l = true := by simpa using hlost
        simp [judgeBits, lineLevel, contentionBits]
        omega
  | succ n ih =>
    cases won with
    | nil => cases hwon
    | cons w ws =>
      cases lost with
      | nil => cases hlost
      | cons l ls =>
        simp only [List.take_succ_cons, List.cons.injEq] at htake
        obtain ⟨rfl, htake⟩ := htake
        have hsame : lineLevel w w = w := Bool.and_self w
        rw [List.zipWith_cons_cons, judgeBits, hsame, if_pos rfl]
        exact ih htake (by simpa using hwon) (by simpa using hlost) (by omega)

/-- Settles O48: the first bit that differs lies in the first two bytes. -/
theorem theLowerNumberWinsTheLine : Obligations.TheLowerNumberWinsTheLine := by
  intro p q src src' rest rest' h
  have hbits : ∀ b : Byte, (byteBits b).length = 8 := fun _ => rfl
  have hsplit : ∀ (b c : Byte) (r : List Byte),
      frameBits (b :: c :: r) = (byteBits b ++ byteBits c) ++ frameBits r := fun b c r => by
    simp [frameBits]
  have hlt : bitsValue (byteBits p ++ byteBits src) < bitsValue (byteBits q ++ byteBits src') := by
    have := src.isLt
    have := src'.isLt
    rw [bitsValue_append, bitsValue_append, hbits, hbits, bitsValue_byteBits, bitsValue_byteBits, bitsValue_byteBits, bitsValue_byteBits]
    rcases h with h | ⟨rfl, h⟩ <;> omega
  obtain ⟨n, hn, htake, hwon, hlost⟩ := exists_first_difference (by simp only [List.length_append, hbits]) hlt
  have hn16 : n < 16 := by simpa only [List.length_append, hbits] using hn
  have hn' : n < (byteBits q ++ byteBits src').length := by simpa only [List.length_append, hbits] using hn16
  have hwon' : (frameBits (p :: src :: rest))[n]? = some false := by
    rw [hsplit, List.getElem?_append_left hn, hwon]
  have hlost' : (frameBits (q :: src' :: rest'))[n]? = some true := by
    rw [hsplit, List.getElem?_append_left hn', hlost]
  have htake' : (frameBits (p :: src :: rest)).take n = (frameBits (q :: src' :: rest')).take n := by
    rw [hsplit, hsplit, List.take_append_of_le_length (Nat.le_of_lt hn),
      List.take_append_of_le_length (Nat.le_of_lt hn'), htake]
  exact ⟨judgeBits_lost htake' hwon' hlost' (by omega), n, hn16, htake', hwon', hlost'⟩

end Sys2Proof.Machine
end

section
/-! The packing of records into frames (R144, R149): which frames a queue yields, what packing them makes of the part, and the
statement about FLUSH and PACKING_TEST. -/

namespace Sys2Proof.Machine

/-! ### The test of R157 and frames queued behind a waiting one -/

theorem Body.priority_le (b : Body) : b.priority ≤ 6 := by
  cases b with
  | alarm a => exact Nat.le_add_left 1 5
  | answer a => exact Nat.le_add_left 4 2
  | records rs => exact Nat.le_refl 6

/-- A RECORDS frame freshly queued. -/
def recordsEntry (rs : List DoseRecord) : Entry := ⟨.records rs, false, 0, false⟩

/-- The link with RECORDS frames added to the transmit queue. -/
def Link.withRecords (l : Link) (frames : List (List DoseRecord)) : Link :=
  { l with queue := l.queue ++ frames.map recordsEntry }

/-- Waiting RECORDS frames behind a waiting frame do not change the choice of R157. -/
theorem Link.beginAttempt_withRecords (l : Link) (own : Nat) (hwaits : ∃ e ∈ l.queue, e.inAttempt = false)
    (frames : List (List DoseRecord)) :
    (l.withRecords frames).beginAttempt own = (l.beginAttempt own).withRecords frames := by
  obtain ⟨p, hbest⟩ : ∃ p, bestWaiting l.queue = some p := by
    refine Option.ne_none_iff_exists'.mp fun hbest => ?_
    obtain ⟨e, he, hw⟩ := hwaits
    cases hw.symm.trans (bestWaiting_eq_none.mp hbest e he)
  obtain ⟨hat, hleast⟩ := bestWaiting_eq_some hbest
  obtain ⟨a, e, b, hq, hpre, he, hattempt⟩ := Link.attemptEntry_eq own hat
  obtain ⟨hew, rfl⟩ := Entry.waitingAt_iff.mp he
  have hbest' : bestWaiting (l.withRecords frames).queue = some e.body.priority := by
    refine bestWaiting_eq (by simp [Link.withRecords, hq]) hew fun x hx hxw => ?_
    rcases List.mem_append.mp hx with hx | hx
    · exact hleast x hx hxw
    · obtain ⟨rs, -, rfl⟩ := List.mem_map.mp hx
      exact e.body.priority_le
  have hentry : (l.withRecords frames).attemptEntry own e.body.priority =
      (l.attemptEntry own e.body.priority).withRecords frames := by
    rw [hattempt, Link.attemptEntry_of_first (pre := a) (e := e) (post := b ++ frames.map recordsEntry)
      (by simp [Link.withRecords, hq]) hew
      fun x hx hxw hp => by simpa [hpre x hx] using Entry.waitingAt_iff.mpr ⟨hxw, hp⟩]
    simp [Link.overflowFor, Link.withRecords]
  by_cases hslot : l.slot = none ∨ e.body.priority < 2
  · rw [Link.beginAttempt_of_entry hbest hslot, Link.beginAttempt_of_entry (l := l.withRecords frames) hbest' hslot, hentry]
  · obtain ⟨hslot, hp⟩ := not_or.mp hslot
    obtain ⟨d, hd⟩ := Option.ne_none_iff_exists'.mp hslot
    rw [Link.beginAttempt_of_demand hd fun q hq => by cases hbest.symm.trans hq; omega,
      Link.beginAttempt_of_demand (l := l.withRecords frames) hd fun q hq => by cases hbest'.symm.trans hq; omega]
    rfl

/-- After the test of R157 no test is owed. -/
theorem State.attemptTest_attemptTest (s : State) : s.attemptTest.attemptTest = s.attemptTest := by
  rcases s.attemptTest_cases with ⟨-, h⟩ | ⟨hmay, -, h⟩ | ⟨-, -, h⟩
  · rw [h, h]
  · refine State.attemptTest_of_driven ?_
    obtain ⟨-, -, -, -, hwaits⟩ := State.mayAttempt_iff.mp hmay
    rw [h]
    dsimp only
    rcases s.link.beginAttempt_begins s.stationNumber with ⟨hno, -⟩ | ⟨a, -, e⟩ | ⟨p, a, e, b, -, -, e⟩
    · cases hno.symm.trans hwaits
    · rw [e]; nofun
    · rw [e]; nofun
  · exact State.attemptTest_of_driven (by rw [h]; nofun)

/-- The part with the report queue as given and RECORDS frames added to the transmit queue. -/
def State.packed (s : State) (rest : List DoseRecord) (frames : List (List DoseRecord)) : State :=
  { s with
    recs := { s.recs with queue := rest }
    link := s.link.withRecords frames }

theorem State.packed_nil (s : State) : s.packed s.recs.queue [] = s := by simp [State.packed, Link.withRecords]

theorem State.packed_packed (s : State) (rest rest' : List DoseRecord) (frames frames' : List (List DoseRecord)) :
    (s.packed rest frames).packed rest' frames' = s.packed rest' (frames ++ frames') := by
  simp [State.packed, Link.withRecords]

/-- Frames packed after a test that found a frame waiting: as if they had been queued before the test. -/
theorem State.attemptTest_packed (u : State) (hwaits : ∃ e ∈ u.link.queue, e.inAttempt = false) (rest : List DoseRecord)
    (frames : List (List DoseRecord)) :
    u.attemptTest.packed rest frames = (u.packed rest frames).attemptTest := by
  have hany : u.link.anyWaiting = true ∧ (u.link.withRecords frames).anyWaiting = true := by
    obtain ⟨e, he, hw⟩ := hwaits
    constructor <;> refine eq_true_of_ne_false fun h => ?_
    · cases hw.symm.trans ((Link.anyWaiting_eq_false.mp h).2 e he)
    · cases hw.symm.trans ((Link.anyWaiting_eq_false.mp h).2 e (List.mem_append_left _ he))
  have hmay : (u.packed rest frames).mayAttempt = u.mayAttempt := by
    unfold State.mayAttempt
    rw [hany.1, show (u.packed rest frames).link.anyWaiting = true from hany.2]
    rfl
  have htested : (u.packed rest frames).testedLink = u.testedLink.withRecords frames := by
    unfold State.testedLink
    rw [hmay]
    by_cases h : u.mayAttempt = true
    · by_cases hc : u.choice % 2 = 0
      · rw [if_pos h, if_pos h, if_pos hc]
        exact (if_pos hc).trans (u.link.beginAttempt_withRecords _ hwaits frames)
      · rw [if_pos h, if_pos h, if_neg hc]
        exact if_neg hc
    · rw [if_neg h, if_neg h]
      rfl
  unfold State.attemptTest
  rw [hmay, htested]
  rfl

/-! ### The frames -/

/-- The frames that packing makes of a queue, with room for so many (R144, R149). -/
def packFrames (n need : Nat) : Nat → List DoseRecord → List (List DoseRecord)
  | 0, _ => []
  | room + 1, q => if need ≤ q.length ∧ 0 < q.length then q.take n :: packFrames n need room (q.drop n) else []

theorem packFrames_of_ends {n need room : Nat} {q : List DoseRecord} (h : q.length < need ∨ q = []) :
    packFrames n need room q = [] := by
  cases room with
  | zero => rfl
  | succ room =>
    refine if_neg fun ⟨hneed, hpos⟩ => ?_
    rcases h with h | rfl
    · omega
    · exact Nat.lt_irrefl 0 hpos

theorem packFrames_succ {n need room : Nat} {q : List DoseRecord} (hneed : need ≤ q.length) (hpos : 0 < q.length) :
    packFrames n need (room + 1) q = q.take n :: packFrames n need room (q.drop n) := if_pos ⟨hneed, hpos⟩

theorem State.packOne_eq (s : State) (n : Nat) (hroom : s.link.queue.length < queueCapacity) :
    s.packOne n = (s.packed (s.recs.queue.drop n) [s.recs.queue.take n]).attemptTest := by
  unfold State.packOne State.enqueue
  dsimp only
  rw [Link.enqueue_of_room _ hroom]
  rfl

theorem Link.beginAttempt_queue_length (l : Link) (own : Nat) : (l.beginAttempt own).queue.length = l.queue.length := by
  rcases l.beginAttempt_begins own with ⟨-, h⟩ | ⟨a, -, h⟩ | ⟨p, a, e, b, hq, -, h⟩ <;> rw [h]
  · rfl
  · simp [hq]

theorem State.attemptTest_queue_length (s : State) : s.attemptTest.link.queue.length = s.link.queue.length := by
  rcases s.attemptTest_cases with ⟨-, h⟩ | ⟨-, -, h⟩ | ⟨-, -, h⟩ <;> rw [h]
  · exact s.link.beginAttempt_queue_length _
  · rfl

/-- The part with the frames of a queue packed. -/
def State.packedFrames (s : State) (n : Nat) (frames : List (List DoseRecord)) : State :=
  s.packed (s.recs.queue.drop (n * frames.length)) frames

/-- What packing makes of the part: nothing where no frame is packed; otherwise the frames are queued and the test of R157 is
made. -/
theorem State.packWhile_eq (n need : Nat) {fuel room : Nat} (s : State) (hfuel : room ≤ fuel)
    (hroom : room = queueCapacity - s.link.queue.length) :
    State.packWhile n need fuel s =
      if packFrames n need room s.recs.queue = [] then s
      else (s.packedFrames n (packFrames n need room s.recs.queue)).attemptTest := by
  induction fuel generalizing s room with
  | zero =>
    cases Nat.le_zero.mp hfuel
    rfl
  | succ fuel ih =>
    unfold State.packWhile
    split
    case isTrue h =>
      obtain ⟨hneed, hpos, hfree⟩ := h
      obtain ⟨room, rfl⟩ : ∃ r, room = r + 1 := ⟨room - 1, by omega⟩
      have hq : (s.packOne n).recs.queue = s.recs.queue.drop n := by rw [s.packOne_eq n hfree]; rfl
      have hlen : (s.packOne n).link.queue.length = s.link.queue.length + 1 := by
        rw [s.packOne_eq n hfree, State.attemptTest_queue_length]
        simp [State.packed, Link.withRecords]
      rw [ih (s.packOne n) (room := room) (by omega) (by omega), hq, packFrames_succ hneed hpos, if_neg (List.cons_ne_nil _ _)]
      generalize packFrames n need room (s.recs.queue.drop n) = frames
      unfold State.packedFrames
      rw [hq, List.drop_drop, s.packOne_eq n hfree]
      split
      case isTrue hnil => rw [hnil]; simp
      case isFalse hmore =>
        rw [State.attemptTest_packed _ ⟨recordsEntry (s.recs.queue.take n), by simp [State.packed, Link.withRecords], rfl⟩,
          State.attemptTest_attemptTest, State.packed_packed, List.length_cons, Nat.mul_succ, Nat.add_comm n]
        rfl
    case isFalse h =>
      rw [if_pos]
      rcases room with _ | room
      · rfl
      · exact packFrames_of_ends (by
          by_contra hno
          obtain ⟨hlen, hne⟩ := not_or.mp hno
          exact h ⟨by omega, List.length_pos_iff.mpr hne, by omega⟩)

/-! ### FLUSH and PACKING_TEST -/

/-- The frames of a flush: the oldest records while there is room, three to a frame, the last with what remains (R144). -/
theorem packFrames_flush (room : Nat) (q : List DoseRecord) :
    (packFrames 3 1 room q).flatten = q.take (3 * room) ∧
    q.drop (3 * (packFrames 3 1 room q).length) = q.drop (3 * room) ∧
    (∀ rs ∈ packFrames 3 1 room q, 1 ≤ rs.length ∧ rs.length ≤ 3) ∧
    ∀ rs ∈ (packFrames 3 1 room q).dropLast, rs.length = 3 := by
  induction room generalizing q with
  | zero => simp [packFrames]
  | succ room ih =>
    cases q with
    | nil => simp [packFrames_of_ends]
    | cons r q =>
      obtain ⟨hflat, hdrop, hsizes, hfull⟩ := ih ((r :: q).drop 3)
      rw [packFrames_succ (by simp) (by simp)]
      refine ⟨?_, ?_, ?_, ?_⟩
      · rw [List.flatten_cons, hflat, Nat.mul_succ, Nat.add_comm _ 3, List.take_add]
      · rw [List.length_cons, Nat.mul_succ, Nat.mul_succ, Nat.add_comm _ 3, Nat.add_comm _ 3, ← List.drop_drop, hdrop,
          List.drop_drop]
      · intro rs hrs
        rcases List.mem_cons.mp hrs with rfl | hrs
        · simp
        · exact hsizes rs hrs
      · intro rs hrs
        by_cases hnil : packFrames 3 1 room ((r :: q).drop 3) = []
        · rw [hnil] at hrs; cases hrs
        · rw [List.dropLast_cons_of_ne_nil hnil] at hrs
          rcases List.mem_cons.mp hrs with rfl | hrs
          · have : ¬ ((r :: q).drop 3) = [] := fun h => hnil (packFrames_of_ends (.inr h))
            simp at this ⊢
            omega
          · exact hfull rs hrs

/-- The frames of the packing test: n records to each, as many as the records and the room yield (R149). -/
theorem packFrames_test {n : Nat} (hn : 1 ≤ n) (room : Nat) (q : List DoseRecord) :
    (packFrames n n room q).length = min room (q.length / n) ∧
    (packFrames n n room q).flatten = q.take (min room (q.length / n) * n) ∧
    ∀ rs ∈ packFrames n n room q, rs.length = n := by
  induction room generalizing q with
  | zero => simp [packFrames]
  | succ room ih =>
    by_cases hq : n ≤ q.length
    · obtain ⟨hlen, hflat, hsizes⟩ := ih (q.drop n)
      have hdiv : min (room + 1) (q.length / n) = min room ((q.drop n).length / n) + 1 := by
        rw [List.length_drop, Nat.div_eq_sub_div hn hq, Nat.add_min_add_right]
      rw [packFrames_succ hq (by omega), hdiv]
      refine ⟨by rw [List.length_cons, hlen], ?_, fun rs hrs => ?_⟩
      · rw [List.flatten_cons, hflat, Nat.succ_mul, Nat.add_comm _ n, List.take_add]
      · rcases List.mem_cons.mp hrs with rfl | hrs
        · simpa using hq
        · exact hsizes rs hrs
    · rw [packFrames_of_ends (.inl (by omega)), Nat.div_eq_of_lt (by omega)]
      simp

/-- Settles O42, from the frames that packing makes of the queue. -/
theorem recordsArePackedIntoFreeEntries : Obligations.RecordsArePackedIntoFreeEntries := by
  refine ⟨fun s im src dst hs hsrc hdst hstn hlistens => ?_, fun s im hs => ?_⟩
  · obtain ⟨hflat, hdrop, hsizes, hfull⟩ := packFrames_flush (8 - s.heard.link.queue.length) s.recs.queue
    have hrecs : s.heard.recs.queue = s.recs.queue := by rw [State.heard_eq]
    have hflush : s.heard.flushRecords =
        s.heard.packedFrames 3 (packFrames 3 1 (8 - s.heard.link.queue.length) s.recs.queue) := by
      unfold State.flushRecords
      rw [State.packWhile_eq 3 1 (fuel := queueCapacity) s.heard (room := 8 - s.heard.link.queue.length) (Nat.sub_le _ _) rfl, hrecs]
      split
      case isTrue hnil => rw [hnil]; exact s.heard.packed_nil.symm
      case isFalse => exact State.attemptTest_of_driven s.heard_line_ne
    refine ⟨s.heard.flushRecords, packFrames 3 1 (8 - s.heard.link.queue.length) s.recs.queue, ?_, ?_, ?_, ?_, hflat, hsizes,
      hfull⟩
    · rw [exec_flush, State.requesting_acted hs hsrc hdst hstn hlistens]
    · rw [hflush]; rfl
    · rw [hflush, ← hdrop, ← hrecs]; rfl
    · rw [hflush]; rfl
  · have hexec : exec .packingTest s = .next (s.packingTest im) := by
      show execPackingTest s = _
      simp only [execPackingTest, hs]
    have hserved := (State.service_eq_some.mp hs).1
    refine ⟨hexec, fun hends => ?_, fun hstn hn => ?_⟩
    · rw [hexec]
      unfold State.packingTest
      split
      case isTrue htransmits =>
        rw [State.packWhile_eq _ _ s (Nat.sub_le _ _) rfl, if_pos]
        rcases hends with h | h | h | h
        · exact absurd h ((StationState.transmits_iff hserved).mp htransmits)
        · exact packFrames_of_ends (.inl h)
        · exact packFrames_of_ends (.inr h)
        · rw [show queueCapacity - s.link.queue.length = 0 by unfold queueCapacity; omega]
          rfl
      case isFalse => rfl
    · obtain ⟨hlen, hflat, hsizes⟩ := packFrames_test hn (8 - s.link.queue.length) s.recs.queue
      refine ⟨packFrames im.station.packingCount im.station.packingCount (8 - s.link.queue.length) s.recs.queue, hlen, hflat,
        hsizes, fun hm => ?_⟩
      rw [hexec, State.packingTest, if_pos ((StationState.transmits_iff hserved).mpr hstn),
        State.packWhile_eq _ _ (fuel := queueCapacity) s (room := 8 - s.link.queue.length) (Nat.sub_le _ _) rfl,
        if_neg fun hnil => by rw [hnil] at hlen; exact absurd hlen.symm (Nat.ne_of_gt hm)]
      unfold State.packedFrames
      rw [hlen, Nat.mul_comm]
      rfl

end Sys2Proof.Machine
end

section
/-! The announce expiry (R59 to R72): the ageing of the tables, the state step for each station state, the DEMAND that is
announced, and the statement. -/

namespace Sys2Proof.Machine

/-! ### Steps 1 to 3: the tables and the silence count -/

theorem agePeers_eq (t : List PeerEntry) :
    agePeers t = (t.filter fun e => decide (e.age < 5)).map fun e => { e with age := e.age + 1 } := by
  rw [agePeers, List.filter_map]
  congr 1
  refine List.filter_congr fun e _ => decide_eq_decide.mpr ?_
  show e.age + 1 < removalAge ↔ _
  unfold removalAge
  omega

theorem ageSlot_eq (slot : Option CapacitySlot) :
    ageSlot slot = (slot.filter fun x => decide (x.age < 5)).map fun x => { x with age := x.age + 1 } := by
  cases slot with
  | none => rfl
  | some x =>
    by_cases h : x.age < 5
    · rw [Option.filter_some_pos (by simpa using h)]
      exact if_pos (by unfold removalAge; omega)
    · rw [Option.filter_some_neg (by simpa using h)]
      exact if_neg (by unfold removalAge; omega)

/-- The silence count after an expiry (R61). -/
def PeerView.silenceAfter (p : PeerView) (limit : Nat) : Nat :=
  if p.heard then p.silence else if p.silence < limit then p.silence + 1 else p.silence

theorem PeerView.expire_eq (p : PeerView) (im : Image) : p.expire im = { p with
    silence := p.silenceAfter im.station.silenceLimit, heard := false
    timer := some (im.station.announcePeriod * 1000), table := agePeers p.table, capacity := ageCapacity p.capacity } := by
  unfold PeerView.expire PeerView.updateSilence PeerView.silenceAfter
  cases p.heard <;> simp [startS]

/-! ### Step 4: the state step -/

theorem StationState.inService_of_transmits {x : StationState} (h : x.transmits = true) : x.inService = true := by
  cases x with
  | load => cases h
  | halted => cases h
  | join => rfl
  | run => rfl
  | isolated => rfl
  | silent => rfl

/-- A frame queued in another state of the station that transmits too: the test of R157 is the same. -/
theorem State.enqueue_restationed {s : State} {x : StationState} (hs : s.stn.transmits = true) (hx : x.transmits = true)
    (q : PeerView) (b : Body) :
    ({ s with stn := x, peer := q } : State).enqueue b = { s.enqueue b with stn := x, peer := q } := by
  have hmay : ∀ l : Link, ({ s with stn := x, peer := q, link := l } : State).mayAttempt =
      ({ s with link := l } : State).mayAttempt := fun l => by
    simp only [State.mayAttempt, State.service, hs, hx, StationState.inService_of_transmits hs,
      StationState.inService_of_transmits hx]
  unfold State.enqueue State.attemptTest State.testedLink
  dsimp only
  rw [hmay]
  rfl

section Step

variable {s : State} {im : Image}

/-- A station enters RUN or stays there, unless the silence limit takes it to ISOLATED with its ALARM (R60, R62). -/
theorem State.isolationTest_eq (hs : s.stn.transmits = true) (q : PeerView) (limit : Nat) :
    ({ s with stn := .run, peer := q } : State).isolationTest limit =
      if limit ≤ q.silence then { s.enqueue (.alarm .isolationBegun) with stn := .isolated, peer := q }
      else { s with stn := .run, peer := q } := by
  rw [← State.enqueue_restationed hs rfl q (.alarm .isolationBegun)]
  rfl

/-- Two states agree but for what the queueing and the packing of frames change. -/
def State.OnlyQueued (s u : State) : Prop :=
  u = { s with link := u.link, freeCount := u.freeCount, recs := { s.recs with queue := u.recs.queue } }

theorem State.OnlyQueued.enqueue {s u : State} (h : s.OnlyQueued u) (b : Body) : s.OnlyQueued (u.enqueue b) := by
  unfold State.OnlyQueued at h ⊢
  rw [h]
  rfl

theorem State.OnlyQueued.packingTest {s u : State} (h : s.OnlyQueued u) (im : Image) : s.OnlyQueued (u.packingTest im) :=
  State.packingTest_keeps (P := s.OnlyQueued) (fun w _ _ hw => by
    refine State.OnlyQueued.enqueue (u := { w with recs := { w.recs with queue := _ } }) ?_ _
    unfold State.OnlyQueued at hw ⊢
    rw [hw]) h

/-- What JOIN from SILENT brings, in either order of the ALARM and the packing test (R65, R149, R164). -/
theorem State.rejoin_cases (s : State) (im : Image) :
    s.enterJoin.OnlyQueued (s.rejoin im) ∧
    (s.rejoin im = (s.enterJoin.attemptTest.choiceRead.enqueue (.alarm .addressConflict)).packingTest im ∨
      s.rejoin im = (s.enterJoin.attemptTest.choiceRead.packingTest im).enqueue (.alarm .addressConflict)) := by
  have hchosen : s.enterJoin.OnlyQueued s.enterJoin.attemptTest.choiceRead := rfl
  unfold State.rejoin
  dsimp only
  split
  · exact ⟨(hchosen.enqueue _).packingTest im, .inl rfl⟩
  · exact ⟨(hchosen.packingTest im).enqueue _, .inr rfl⟩

/-- Steps 1 to 4 of an announce expiry (R59). -/
def State.expired (s : State) (im : Image) : State := ({ s with peer := s.peer.expire im } : State).stationStep im

/-- What every state step leaves alone. -/
structure State.Stepped (s : State) (im : Image) (u : State) : Prop where
  rest : u = { s with
    stn := u.stn, peer := u.peer, link := u.link, freeCount := u.freeCount, recs := { s.recs with queue := u.recs.queue } }
  peer : u.peer = { s.peer.expire im with
    joinCount := u.peer.joinCount, conflictClear := u.peer.conflictClear, conflictSeen := u.peer.conflictSeen
    silencedAtExpiry := u.peer.silencedAtExpiry }
  inService : u.stn.inService = true

theorem State.expired_join (hstn : s.stn = .join) : s.expired im =
    let q := { s.peer.expire im with joinCount := s.peer.joinCount + 1 }
    if s.peer.joinCount + 1 < 2 then { s with peer := q }
    else if im.station.silenceLimit ≤ s.peer.silenceAfter im.station.silenceLimit then
      { s.enqueue (.alarm .isolationBegun) with stn := .isolated, peer := q }
    else { s with stn := .run, peer := q } := by
  have hstep : s.expired im = ({ s with peer := s.peer.expire im } : State).joinStep im.station.silenceLimit := by
    unfold State.expired State.stationStep
    simp only [hstn]
  rw [hstep, PeerView.expire_eq]
  dsimp only [State.joinStep]
  by_cases h : s.peer.joinCount + 1 < 2
  · rw [if_pos h, if_neg (by omega)]
  · rw [if_neg h, if_pos (by omega)]
    exact State.isolationTest_eq (by rw [hstn]; rfl) _ _

theorem State.expired_run (hstn : s.stn = .run) : s.expired im =
    if im.station.silenceLimit ≤ s.peer.silenceAfter im.station.silenceLimit then
      { s.enqueue (.alarm .isolationBegun) with stn := .isolated, peer := s.peer.expire im }
    else { s with peer := s.peer.expire im } := by
  have hstep : s.expired im =
      ({ s with stn := .run, peer := s.peer.expire im } : State).isolationTest im.station.silenceLimit := by
    unfold State.expired State.stationStep
    simp only [hstn]
  rw [hstep, State.isolationTest_eq (by rw [hstn]; rfl), PeerView.expire_eq, ← hstn]

theorem State.expired_isolated (hstn : s.stn = .isolated) : s.expired im = { s with peer := s.peer.expire im } := by
  unfold State.expired State.stationStep
  simp only [hstn]

/-- A clean expiry in SILENT that is not yet the fourth, or one that is not clean (R65, R66). -/
theorem State.expired_silent_stays (hstn : s.stn = .silent) (hwait : s.peer.conflictSeen = true ∨ s.peer.conflictClear + 1 < 4) :
    s.expired im = { s with peer := { s.peer.expire im with
      conflictSeen := s.peer.conflictSeen && s.peer.silencedAtExpiry, silencedAtExpiry := false
      conflictClear := if s.peer.conflictSeen then s.peer.conflictClear else s.peer.conflictClear + 1 } } := by
  have hstep : s.expired im = ({ s with peer := s.peer.expire im } : State).conflictClearStep im := by
    unfold State.expired State.stationStep
    simp only [hstn]
  rw [hstep, PeerView.expire_eq]
  dsimp only [State.conflictClearStep]
  by_cases hseen : s.peer.conflictSeen = true
  · simp only [hseen, if_true, Bool.true_and]
  · have hclean : s.peer.conflictSeen = false := by simpa using hseen
    have hfew := hwait.resolve_left hseen
    simp only [hclean, Bool.false_and, Bool.false_eq_true, if_false]
    exact if_neg (by omega)

theorem State.expired_silent_ends (hstn : s.stn = .silent) (hclean : s.peer.conflictSeen = false)
    (hfour : 4 ≤ s.peer.conflictClear + 1) :
    s.expired im = ({ s with peer := { s.peer.expire im with
      silencedAtExpiry := false, conflictClear := s.peer.conflictClear + 1 } } : State).rejoin im := by
  have hstep : s.expired im = ({ s with peer := s.peer.expire im } : State).conflictClearStep im := by
    unfold State.expired State.stationStep
    simp only [hstn]
  rw [hstep, PeerView.expire_eq]
  dsimp only [State.conflictClearStep]
  rw [hclean, if_neg Bool.false_ne_true]
  exact if_pos hfour

/-- Outside SILENT a state step changes the station state and the join count, and queues an ALARM where isolation begins. -/
theorem State.expired_transmitting (hs : s.service = some im) (hstn : s.stn ≠ .silent) :
    ∃ w x j, s.expired im = { w with stn := x, peer := { s.peer.expire im with joinCount := j } } ∧
      x.inService = true ∧
      ((x = .isolated ∧ s.stn ≠ .isolated ∧ w = s.enqueue (.alarm .isolationBegun)) ∨
        ((x = .isolated → s.stn = .isolated) ∧ w = s)) := by
  have hserved := (State.service_eq_some.mp hs).1
  have hp := s.peer.expire_eq im
  cases hx : s.stn
  case load => rw [hx] at hserved; cases hserved
  case halted => rw [hx] at hserved; cases hserved
  case silent => exact absurd hx hstn
  case join =>
    rw [State.expired_join hx]
    dsimp only
    split
    · exact ⟨s, .join, _, by rw [← hx], rfl, .inr ⟨nofun, rfl⟩⟩
    · split
      · exact ⟨_, .isolated, _, rfl, rfl, .inl ⟨rfl, nofun, rfl⟩⟩
      · exact ⟨s, .run, _, rfl, rfl, .inr ⟨nofun, rfl⟩⟩
  case run =>
    rw [State.expired_run hx]
    split
    · exact ⟨_, .isolated, (s.peer.expire im).joinCount, rfl, rfl, .inl ⟨rfl, nofun, rfl⟩⟩
    · exact ⟨s, .run, (s.peer.expire im).joinCount, by rw [← hx], rfl, .inr ⟨nofun, rfl⟩⟩
  case isolated =>
    exact ⟨s, .isolated, (s.peer.expire im).joinCount, by rw [State.expired_isolated hx, ← hx], rfl, .inr ⟨fun _ => rfl, rfl⟩⟩

theorem State.expired_stepped (hs : s.service = some im) : s.Stepped im (s.expired im) := by
  have hserved := (State.service_eq_some.mp hs).1
  by_cases hstn : s.stn = .silent
  · by_cases hwait : s.peer.conflictSeen = true ∨ s.peer.conflictClear + 1 < 4
    · rw [State.expired_silent_stays hstn hwait]
      exact ⟨rfl, rfl, hserved⟩
    · obtain ⟨hclean, hfour⟩ := not_or.mp hwait
      rw [State.expired_silent_ends hstn (by simpa using hclean) (by omega)]
      obtain ⟨hq, -⟩ := State.rejoin_cases ({ s with peer := { s.peer.expire im with
        silencedAtExpiry := false, conflictClear := s.peer.conflictClear + 1 } } : State) im
      unfold State.OnlyQueued at hq
      rw [hq]
      exact ⟨rfl, rfl, rfl⟩
  · obtain ⟨w, x, j, h, hx, ⟨-, -, rfl⟩ | ⟨-, rfl⟩⟩ := State.expired_transmitting hs hstn <;> rw [h]
    · exact ⟨rfl, rfl, hx⟩
    · exact ⟨rfl, rfl, hx⟩

/-! ### The DEMAND announced -/

theorem State.Stepped.buildDemand {u : State} (h : s.Stepped im u) : u.buildDemand im =
    ⟨im.station.weight, u.stn, s.recs.warning,
      ⟨s.stationDemand im 0, s.stationDemand im 1, s.stationDemand im 2, s.stationDemand im 3⟩⟩ := by
  have hchannels : u.channels = s.channels := by rw [h.rest]
  have hdemand : ∀ g, u.stationDemand im g = s.stationDemand im g := fun g =>
    State.stationDemand_congr im g fun j => by rw [State.channel, State.channel, hchannels]
  unfold State.buildDemand
  rw [funext hdemand, show u.recs.warning = s.recs.warning by rw [h.rest]]
  rfl

theorem exec_announceExpiry_of_due (hs : s.service = some im) (hdue : s.peer.timer = some 0) :
    exec .announceExpiry s = .next
      (if (s.expired im).stn = .silent then s.expired im else (s.expired im).announce im).settleRestart := by
  have htransmits := StationState.transmits_iff (State.expired_stepped hs).inService
  show execAnnounceExpiry s = _
  simp only [execAnnounceExpiry, hs]
  rw [if_pos (Timer.due_iff.mpr hdue)]
  show Host.Outcome.next (if (s.expired im).stn.transmits = true then (s.expired im).announce im
    else s.expired im).settleRestart = _
  by_cases h : (s.expired im).stn = .silent
  · rw [if_pos h, if_neg fun hyes => htransmits.mp hyes h]
  · rw [if_neg h, if_pos (htransmits.mpr h)]

end Step

/-- Settles O33, by the state of the station. -/
theorem anAnnounceExpiryAgesStepsAndAnnounces : Obligations.AnAnnounceExpiryAgesStepsAndAnnounces := by
  intro s im hs hdue
  have hstepped := State.expired_stepped hs
  have hpeer := hstepped.peer
  have hp := s.peer.expire_eq im
  refine ⟨s.expired im, _, exec_announceExpiry_of_due hs hdue, ?_, hstepped.rest, ?_⟩
  · unfold State.announce
    rw [hstepped.buildDemand]
  refine ⟨?_, fun g => ⟨?_, ?_⟩, ?_, ?_, ?_, fun hstn => ?_, fun hstn => ?_, fun hstn => ?_, fun hstn => ?_, fun hstn => ?_⟩
  · rw [hpeer, hp]; exact agePeers_eq _
  · rw [hpeer, hp, ← ageSlot_eq]; simp only [ageCapacity, Four.get_ofFn]
  · rw [hpeer, hp, ← ageSlot_eq]; simp only [ageCapacity, Four.get_ofFn]
  · rw [hpeer, hp]; rfl
  · rw [hpeer, hp]
  · rw [hpeer, hp]
  · rw [State.expired_join hstn]
    by_cases hfew : s.peer.joinCount + 1 < 2
    · simp only [if_pos hfew]
      exact ⟨trivial, hstn⟩
    · simp only [if_neg hfew]
      split
      · next hlimit => exact ⟨rfl, (if_pos hlimit).symm⟩
      · next hlimit => exact ⟨rfl, (if_neg hlimit).symm⟩
  · rw [State.expired_run hstn, hp]
    split
    · next hlimit => exact ⟨rfl, (if_pos hlimit).symm⟩
    · next hlimit => exact ⟨rfl, hstn.trans (if_neg hlimit).symm⟩
  · rw [State.expired_isolated hstn, hp]
    exact ⟨rfl, hstn⟩
  · obtain ⟨w, x, j, h, -, ⟨rfl, hbegun, rfl⟩ | ⟨hkept, rfl⟩⟩ := State.expired_transmitting hs hstn <;> rw [h, hp]
    · exact ⟨rfl, rfl, rfl, rfl, fun _ _ => ⟨rfl, rfl⟩, fun hno => absurd (hno.resolve_left (fun h => h rfl)) hbegun⟩
    · exact ⟨rfl, rfl, rfl, rfl, fun hx hno => absurd (hkept hx) hno, fun _ => ⟨rfl, rfl⟩⟩
  · by_cases hwait : s.peer.conflictSeen = true ∨ s.peer.conflictClear + 1 < 4
    · rw [State.expired_silent_stays hstn hwait, hp]
      exact ⟨rfl, rfl, rfl, fun _ => ⟨hstn, rfl, rfl, rfl, rfl⟩, fun hclean hfour =>
        absurd hwait (by simp only [hclean, Bool.false_eq_true, false_or]; omega)⟩
    · obtain ⟨hclean, hfour⟩ := not_or.mp hwait
      replace hclean : s.peer.conflictSeen = false := by simpa using hclean
      rw [State.expired_silent_ends hstn hclean (by omega)]
      obtain ⟨hq, horder⟩ := State.rejoin_cases ({ s with peer := { s.peer.expire im with
        silencedAtExpiry := false, conflictClear := s.peer.conflictClear + 1 } } : State) im
      generalize hv : ({ s with peer := { s.peer.expire im with
        silencedAtExpiry := false, conflictClear := s.peer.conflictClear + 1 } } : State) = v at hq horder ⊢
      have hrejoined : (v.rejoin im).stn = .join ∧ (v.rejoin im).peer = v.enterJoin.peer := by
        unfold State.OnlyQueued at hq
        rw [hq]
        exact ⟨rfl, rfl⟩
      have hjoin : ({ s with stn := .join, peer := v.enterJoin.peer } : State) = v.enterJoin := by rw [← hv]; rfl
      rw [hrejoined.1, hrejoined.2, hjoin]
      rw [hclean]
      refine ⟨by rw [← hv, hp]; exact hclean, by rw [← hv]; rfl, by rw [← hv]; rfl, fun hwait' => absurd hwait' ?_,
        fun _ _ => ⟨rfl, rfl, horder⟩⟩
      simp only [Bool.false_eq_true, false_or]
      omega

end Sys2Proof.Machine
end

section
/-! The report (Chapter 9): the records of the channels, the health figures, and the statement about REPORT_TIMER_EXPIRY. -/

namespace Sys2Proof.Machine

/-! ### The newest records -/

/-- The newest sixteen records (R148). -/
def newestRecords (q : List DoseRecord) : List DoseRecord := q.drop (q.length - 16)

theorem newestRecords_of_few {q : List DoseRecord} (h : q.length ≤ 16) : newestRecords q = q := by
  rw [newestRecords, Nat.sub_eq_zero_of_le h, List.drop_zero]

theorem newestRecords_append (a b : List DoseRecord) : newestRecords (newestRecords a ++ b) = newestRecords (a ++ b) := by
  unfold newestRecords
  have hsplit : (a ++ b).drop (a.length - 16) = a.drop (a.length - 16) ++ b :=
    List.drop_append_of_le_length (Nat.sub_le _ _)
  rw [← hsplit, List.drop_drop]
  congr 1
  simp only [List.length_drop, List.length_append]
  omega

theorem appendRecord_eq {q : List DoseRecord} (h : q.length ≤ 16) (r : DoseRecord) :
    appendRecord q r = newestRecords (q ++ [r]) := by
  unfold appendRecord newestRecords reportCapacity
  rw [List.length_append, List.length_singleton]
  split
  · rw [show q.length + 1 - 16 = 1 by omega, List.drop_append_of_le_length (by omega)]
  · rw [show q.length + 1 - 16 = 0 by omega, List.drop_zero]

theorem newestRecords_length (q : List DoseRecord) : (newestRecords q).length ≤ 16 := by
  rw [newestRecords, List.length_drop]
  omega

theorem nextSeq_eq {n : Nat} (h : n ≤ 65535) : nextSeq n = (n + 1) % 65536 := by
  unfold nextSeq top16
  split <;> omega

/-! ### The records of several channels -/

/-- The records of channels, numbered on from the sequence counter (R147). -/
def State.recordsOf (s : State) (ks : List (Fin 4)) : List DoseRecord :=
  ks.zipIdx.map fun (k, i) => (s.channel k).record k ((s.recs.seq + i) % 65536)

theorem State.closeInterval_channel (s : State) (k j : Fin 4) :
    (s.closeInterval k).channel j = if j = k then (s.channel k).newInterval else s.channel j :=
  State.channel_setChannel _ k j _

theorem State.closeInterval_seq {s : State} (h : s.recs.seq ≤ 65535) (k : Fin 4) :
    (s.closeInterval k).recs.seq = (s.recs.seq + 1) % 65536 := nextSeq_eq h

theorem State.recordsOf_cons {s : State} (hseq : s.recs.seq ≤ 65535) {k : Fin 4} {ks : List (Fin 4)} (hk : k ∉ ks) :
    s.recordsOf (k :: ks) = (s.channel k).record k s.recs.seq :: (s.closeInterval k).recordsOf ks := by
  unfold State.recordsOf
  rw [List.zipIdx_cons, List.map_cons, List.zipIdx_succ, List.map_map]
  congr 1
  · show (s.channel k).record k ((s.recs.seq + 0) % 65536) = _
    rw [Nat.add_zero, Nat.mod_eq_of_lt (by omega)]
  · refine List.map_congr_left fun (j, i) hj => ?_
    have hne : j ≠ k := fun h => by
      obtain ⟨-, hget⟩ := List.mem_zipIdx' hj
      exact hk (h ▸ hget ▸ List.getElem_mem _)
    simp only [Function.comp_apply]
    rw [State.closeInterval_channel, if_neg hne, State.closeInterval_seq hseq]
    congr 1
    omega

/-- What closing the interval of several channels makes of the part: their records, ascending, numbered and appended, their
intervals begun anew (R147). -/
theorem State.forChannels_closeInterval {ks : List (Fin 4)} (hn : ks.Nodup) {s : State} (hseq : s.recs.seq ≤ 65535)
    (hfew : s.recs.queue.length ≤ 16) :
    ∃ u, s.forChannels ks (fun k s => s.closeInterval k) = u ∧
      u = { s with
        channels := u.channels
        recs := { s.recs with
          queue := newestRecords (s.recs.queue ++ s.recordsOf ks), seq := (s.recs.seq + ks.length) % 65536 } } ∧
      ∀ k, u.channel k = if k ∈ ks then (s.channel k).newInterval else s.channel k := by
  induction ks generalizing s with
  | nil =>
    refine ⟨s, rfl, ?_, fun _ => rfl⟩
    have hqueue : newestRecords (s.recs.queue ++ s.recordsOf []) = s.recs.queue := by
      rw [State.recordsOf, List.zipIdx_nil, List.map_nil, List.append_nil, newestRecords_of_few hfew]
    rw [hqueue, List.length_nil, Nat.add_zero, Nat.mod_eq_of_lt (by omega)]
  | cons k ks ih =>
    obtain ⟨hk, hks⟩ := List.nodup_cons.mp hn
    have hqueue : (s.closeInterval k).recs.queue = newestRecords (s.recs.queue ++ [(s.channel k).record k s.recs.seq]) :=
      appendRecord_eq hfew _
    have hnext := State.closeInterval_seq hseq k
    obtain ⟨u, hu, hrest, hchannel⟩ := ih hks (s := s.closeInterval k) (by omega)
      (by rw [hqueue]; exact newestRecords_length _)
    refine ⟨u, hu, ?_, fun j => ?_⟩
    · rw [hqueue, newestRecords_append, List.append_assoc, List.singleton_append, ← State.recordsOf_cons hseq hk, hnext] at hrest
      rw [List.length_cons, show (s.recs.seq + (ks.length + 1)) % 65536 = ((s.recs.seq + 1) % 65536 + ks.length) % 65536 by omega]
      exact hrest
    · rw [hchannel, State.closeInterval_channel]
      by_cases hj : j = k
      · subst hj
        rw [if_neg hk, if_pos rfl, if_pos List.mem_cons_self]
      · rw [if_neg hj]
        exact if_congr (by simp [hj]) rfl rfl

/-! ### The health figures -/

/-- What a report makes of a health figure: the new percentage where there is one, within its bound, the lower worst, the raw
count (R153). -/
def Attr.Moved (a b : Attr) (part whole cap raw : Nat) : Prop :=
  b.threshold = a.threshold ∧ b.raw = min (2 ^ 32 - 1) (a.raw + raw) ∧
  (whole = 0 → b.value = a.value ∧ b.worst = a.worst) ∧
  (0 < whole → b.value = min cap (part * 100 / whole) ∧ b.worst = min a.worst b.value)

theorem Attr.update_percent (a : Attr) (part whole raw : Nat) :
    a.Moved (a.update (percent part whole) raw) part whole (part * 100 / whole) raw := by
  unfold percent
  split
  case isTrue h => exact ⟨rfl, rfl, fun _ => ⟨rfl, rfl⟩, fun hpos => absurd hpos (by omega)⟩
  case isFalse h => exact ⟨rfl, rfl, fun hzero => absurd hzero h, fun _ => ⟨(min_self _).symm, rfl⟩⟩

theorem Attr.update_cappedPercent (a : Attr) (part whole raw : Nat) :
    a.Moved (a.update (cappedPercent part whole) raw) part whole 100 raw := by
  unfold cappedPercent percent
  split
  case isTrue h => exact ⟨rfl, rfl, fun _ => ⟨rfl, rfl⟩, fun hpos => absurd hpos (by omega)⟩
  case isFalse h => exact ⟨rfl, rfl, fun hzero => absurd hzero h, fun _ => ⟨rfl, rfl⟩⟩

/-- A part is at most a hundred percent of the whole. -/
theorem percent_eq_cappedPercent {part whole : Nat} (h : part ≤ whole) : percent part whole = cappedPercent part whole := by
  unfold cappedPercent percent
  split
  case isTrue => rfl
  case isFalse hpos =>
    rw [Option.map_some, Nat.min_eq_right (Nat.div_le_of_le_mul (Nat.mul_le_mul_right 100 h))]

theorem Attr.below_iff (a : Attr) : a.below = true ↔ a.value < a.threshold := decide_eq_true_iff

theorem HealthTable.anyBelow_iff (h : HealthTable) :
    h.anyBelow = true ↔ ∃ a ∈ h.attributes, a.value < a.threshold := by
  unfold HealthTable.anyBelow HealthTable.attributes ChannelHealth.below
  simp only [Bool.or_eq_true, List.any_eq_true, Attr.below_iff, List.mem_append, List.mem_flatMap, List.mem_cons,
    List.not_mem_nil, or_false]
  grind

/-- Settles O49, from the records of the configured channels and the movement of each health figure. -/
theorem aReportClosesTheInterval : Obligations.AReportClosesTheInterval := by
  intro s im hs hdue hfew hseq
  obtain ⟨u, hu, hrest, hchannel⟩ := State.forChannels_closeInterval im.configured_nodup hseq hfew
  have hhealth : ∀ k, (u.recs.updateHealth s.channels).health.channels.get k =
      (s.recs.health.channels.get k).update (s.channel k).iv := fun k => by
    rw [hrest]
    exact Four.get_ofFn _ k
  refine ⟨{ u with recs := { u.recs.updateHealth s.channels with timer := startS im.station.reportInterval } }, ?_, ?_, rfl,
    ?_, ?_, fun k => ?_, ⟨fun k => ⟨?_, ?_, ?_⟩, ?_, ?_⟩, ?_, rfl, rfl, rfl, rfl, rfl⟩
  · show execReportTimerExpiry s = _
    simp only [execReportTimerExpiry, hs]
    rw [if_pos (Timer.due_iff.mpr hdue), hu]
  · rw [hrest]
  · rw [hrest]; rfl
  · rw [hrest]; rfl
  · refine (hchannel k).trans ?_
    by_cases hk : (im.channel k).kind = .none
    · rw [if_neg (fun hmem => Image.mem_configured_iff.mp hmem hk), if_pos hk]
    · rw [if_pos (Image.mem_configured_iff.mpr hk), if_neg hk]
      rfl
  · rw [hhealth k]; exact Attr.update_cappedPercent ..
  · rw [hhealth k]; exact Attr.update_percent ..
  · rw [hhealth k]; exact Attr.update_percent ..
  · rw [hrest, RecordBuilder.updateHealth]
    dsimp only
    rw [percent_eq_cappedPercent (Nat.le_add_right _ _)]
    exact Attr.update_cappedPercent ..
  · rw [hrest]; exact Attr.update_cappedPercent ..
  · exact HealthTable.anyBelow_iff _

end Sys2Proof.Machine
end

section
/-! The frames and their bytes (Chapter 12): what stands where in a frame, that a frame built is valid and read back, and the
statement. -/

namespace Sys2Proof.Machine

/-! ### Bytes that stand at a place -/

/-- The bytes p stand in bs from an offset on. -/
def StandsAt (p bs : List Byte) (o : Nat) : Prop := ∀ i, i < p.length → octetAt bs (o + i) = octetAt p i

theorem StandsAt.left {a b bs : List Byte} {o : Nat} (h : StandsAt (a ++ b) bs o) : StandsAt a bs o := fun i hi => by
  rw [h i (by rw [List.length_append]; omega), octetAt_append_left hi]

theorem StandsAt.right {a b bs : List Byte} {o : Nat} (h : StandsAt (a ++ b) bs o) : StandsAt b bs (o + a.length) := fun i hi => by
  rw [Nat.add_assoc, h _ (by rw [List.length_append]; omega), octetAt_append_right]

/-- In a list of blocks of n bytes, block i begins at n × i. -/
theorem StandsAt.block {α : Type} {f : α → List Byte} {n : Nat} (hn : ∀ a, (f a).length = n) {l : List α} {bs : List Byte}
    {o : Nat} (h : StandsAt (l.flatMap f) bs o) {i : Nat} {a : α} (ha : l[i]? = some a) : StandsAt (f a) bs (o + n * i) := by
  intro j hj
  rw [hn] at hj
  have hi := (List.getElem?_eq_some_iff.mp ha).1
  have hlen : (l.flatMap f).length = l.length * n := by
    rw [List.length_flatMap, List.map_congr_left (fun a _ => hn a), List.map_const', List.sum_replicate, smul_eq_mul]
  have hin : n * i + j < (l.flatMap f).length := by
    rw [hlen]
    nlinarith
  rw [Nat.add_assoc, h _ hin, octetAt_flatMap hn ha hj]

theorem frame_standsAt {p s k : Nat} {d : Byte} (payload : List Byte) :
    StandsAt payload (withCrc (frameHead p s k d payload)) 5 := fun _ hi => frame_payload p s k d hi

/-! ### The figures of a payload stand where the payload stands -/

section Laid

variable {bs : List Byte} {o : Nat}

theorem Alarm.laidAt_of_stands {a : Alarm} {overflow : Bool} (h : StandsAt (a.payload overflow) bs o) :
    a.LaidAt overflow bs o := by
  have hlaid := a.payload_laid overflow
  unfold StandsAt at h
  rw [a.payload_length] at h
  have h0 := h 0 (by omega)
  unfold Alarm.LaidAt at hlaid ⊢
  simp only [stationFieldsAt, pairAt, Nat.add_assoc, Nat.reduceAdd, Nat.zero_add, Nat.add_zero] at hlaid h0 ⊢
  simp (disch := decide) only [h0, h]
  exact hlaid

theorem DoseRecord.laidAt_of_stands {r : DoseRecord} (h : StandsAt r.payload bs o) : r.LaidAt bs o := by
  have hlaid := r.payload_laid
  unfold StandsAt at h
  rw [r.payload_length] at h
  have h0 := h 0 (by omega)
  simp only [DoseRecord.LaidAt, quadAt, pairAt, Nat.add_assoc, Nat.reduceAdd, Nat.zero_add, Nat.add_zero] at hlaid h0 ⊢
  simp (disch := decide) only [h0, h]
  exact hlaid

theorem ChannelReport.laidAt_of_stands {r : ChannelReport} (h : StandsAt r.payload bs o) : r.LaidAt bs o := by
  have hlaid := r.payload_laid
  unfold StandsAt at h
  rw [r.payload_length] at h
  have h0 := h 0 (by omega)
  simp only [ChannelReport.LaidAt, quadAt, pairAt, Nat.add_assoc, Nat.reduceAdd, Nat.zero_add, Nat.add_zero] at hlaid h0 ⊢
  simp (disch := decide) only [h0, h]
  exact hlaid

theorem PeerEntry.laidAt_of_stands {e : PeerEntry} (h : StandsAt e.payload bs o) : e.LaidAt bs o := by
  obtain ⟨hnumber, hweight, hstatus, hdemand⟩ := e.payload_laid
  unfold StandsAt at h
  rw [e.payload_length] at h
  refine ⟨(h 0 (by omega)).trans hnumber, (h 1 (by omega)).trans hweight, (h 2 (by omega)).trans hstatus, fun g => ?_⟩
  rw [← hdemand g]
  have hg := g.isLt
  simp only [quadAt, pairAt, Nat.add_assoc, Nat.zero_add]
  rw [h _ (by omega), h _ (by omega), h _ (by omega), h _ (by omega)]

theorem Lockout.laidAt_of_stands {l : Lockout} (h : StandsAt (lockoutPayload (some l)) bs o) : l.LaidAt bs o := by
  have hlaid := l.payload_laid
  unfold StandsAt at h
  rw [lockoutPayload_length] at h
  have h0 := h 0 (by omega)
  simp only [Lockout.LaidAt, quadAt, pairAt, Nat.add_assoc, Nat.reduceAdd, Nat.zero_add, Nat.add_zero] at hlaid h0 ⊢
  simp (disch := decide) only [h0, h]
  exact hlaid

theorem Attr.laidAt_of_stands {a : Attr} (h : StandsAt a.payload bs o) : a.LaidAt bs o := by
  have hlaid := a.payload_laid
  unfold StandsAt at h
  rw [a.payload_length] at h
  have h0 := h 0 (by omega)
  simp only [Attr.LaidAt, pairAt, Nat.add_assoc, Nat.reduceAdd, Nat.zero_add, Nat.add_zero] at hlaid h0 ⊢
  simp (disch := decide) only [h0, h]
  exact hlaid

/-! ### Numbers -/

theorem octetAt_of_stands {n : Nat} (h : StandsAt (oneByte n) bs o) : octetAt bs o = n % 256 := by
  rw [← Nat.add_zero o, h 0 Nat.zero_lt_one]
  simp [octetAt, oneByte, beBytes]

theorem pairAt_of_stands {n : Nat} (h : StandsAt (beBytes 2 n) bs o) : pairAt bs o = n % 65536 := by
  have hhigh : octetAt bs o = n / 256 % 256 := (h 0 Nat.zero_lt_two).trans (by simp [octetAt, beBytes])
  have hlow : octetAt bs (o + 1) = n % 256 := (h 1 Nat.one_lt_two).trans (by simp [octetAt, beBytes])
  unfold pairAt
  omega

theorem quadAt_of_stands {n : Nat} (h : StandsAt (beBytes 4 n) bs o) : quadAt bs o = n % 2 ^ 32 := by
  have hsplit : beBytes 4 n = beBytes 2 (n / 65536) ++ beBytes 2 n := by
    simp [beBytes, Nat.div_div_eq_div_mul]
  rw [hsplit] at h
  have hhigh := pairAt_of_stands h.left
  have hlow : pairAt bs (o + 2) = n % 65536 := pairAt_of_stands h.right
  rw [quadAt, hhigh, hlow]
  omega

theorem GroupReport.laidAt_of_stands {g : GroupReport} (h : StandsAt g.payload bs o) :
    quadAt bs o = g.capacity % 2 ^ 32 ∧ quadAt bs (o + 4) = g.dOwn % 2 ^ 32 ∧ quadAt bs (o + 8) = g.gStation % 2 ^ 32 :=
  ⟨quadAt_of_stands h.left.left, quadAt_of_stands h.left.right, quadAt_of_stands h.right⟩

end Laid

/-! ### The contents of an ANSWER -/

theorem StationState.code_mod (x : StationState) : x.code % 256 = x.code := by cases x <;> rfl

/-- The contents of an ANSWER stand where its payload has them, behind the three opening bytes (12.4). -/
theorem AnswerContent.laidAt_of_stands {x : AnswerContent} {bs : List Byte} {o : Nat} (h : StandsAt x.payload bs o) :
    x.LaidAt bs o (x.payload.length + 3) := by
  cases x with
  | plain => rfl
  | value v => exact ⟨rfl, pairAt_of_stands h⟩
  | channel r =>
    refine ⟨?_, octetAt_of_stands h.left, ChannelReport.laidAt_of_stands h.right⟩
    simp [AnswerContent.payload, r.payload_length, oneByte, beBytes]
  | station state silence warning groups =>
    have hgroups : StandsAt (groups.toList.flatMap GroupReport.payload) bs (o + 4) := h.right
    have hlen : ∀ g : GroupReport, g.payload.length = 12 := fun g => by simp [GroupReport.payload, beBytes]
    refine ⟨?_, octetAt_of_stands h.left.left.left.left, (octetAt_of_stands h.left.left.left.right).trans state.code_mod,
      octetAt_of_stands h.left.left.right, ?_, fun g => ?_⟩
    · simp [AnswerContent.payload, hlen, oneByte, beBytes, Four.toList]
    · refine (octetAt_of_stands h.left.right).trans ?_
      cases warning <;> rfl
    · exact GroupReport.laidAt_of_stands (hgroups.block hlen (by fin_cases g <;> rfl))
  | peers count entries =>
    have hentries : StandsAt (entries.flatMap PeerEntry.payload) bs (o + 2) := h.right
    refine ⟨?_, octetAt_of_stands h.left.left, octetAt_of_stands h.left.right, fun i e he =>
      PeerEntry.laidAt_of_stands (hentries.block PeerEntry.payload_length he)⟩
    simp [AnswerContent.payload, oneByte, beBytes, List.length_flatMap, PeerEntry.payload_length]
    omega
  | lockout r =>
    have hrecord : StandsAt (lockoutPayload r) bs (o + 1) := h.right
    refine ⟨?_, octetAt_of_stands h.left, fun hr i hi => ?_, fun l hl => ?_⟩
    · simp [AnswerContent.payload, lockoutPayload_length, oneByte, beBytes]
    · subst hr
      rw [hrecord i (by rw [lockoutPayload_length]; exact hi)]
      unfold octetAt lockoutPayload
      rw [List.getD_eq_getElem?_getD, List.getElem?_replicate, if_pos hi]
      rfl
    · subst hl
      exact Lockout.laidAt_of_stands hrecord
  | health t warning =>
    have hchannels : StandsAt (t.channels.toList.flatMap fun c => c.feed.payload ++ c.share.payload ++ c.samples.payload)
      bs (o + 1) := h.right.left.left
    have hlen : ∀ c : ChannelHealth, (c.feed.payload ++ c.share.payload ++ c.samples.payload).length = 18 := fun c => by
      simp [Attr.payload_length]
    refine ⟨?_, ?_, fun k => ?_, ?_, ?_⟩
    · simp [AnswerContent.payload, HealthTable.payload, Attr.payload_length, oneByte, beBytes, Four.toList]
    · refine (octetAt_of_stands h.left).trans ?_
      cases warning <;> rfl
    · have hk := hchannels.block hlen (i := k.val) (a := t.channels.get k) (by fin_cases k <;> rfl)
      exact ⟨Attr.laidAt_of_stands hk.left.left, Attr.laidAt_of_stands hk.left.right, Attr.laidAt_of_stands hk.right⟩
    · exact Attr.laidAt_of_stands h.right.left.right
    · exact Attr.laidAt_of_stands h.right.right

/-! ### The frames that the part drives -/

theorem AnswerContent.payload_length (x : AnswerContent) :
    (∀ count entries, x = .peers count entries → x.payload.length = 2 + 19 * entries.length) ∧
    ((∀ count entries, x ≠ .peers count entries) → x.payload.length ∈ [0, 2, 50, 52, 22, 85]) := by
  cases x with
  | peers count entries =>
    refine ⟨fun c es he => ?_, fun hno => absurd rfl (hno count entries)⟩
    cases he
    simp [AnswerContent.payload, oneByte, beBytes, List.length_flatMap, PeerEntry.payload_length]
    omega
  | plain => exact ⟨nofun, fun _ => by decide⟩
  | value v => exact ⟨nofun, fun _ => by simp [AnswerContent.payload, optHalf, beBytes]⟩
  | channel r => exact ⟨nofun, fun _ => by simp [AnswerContent.payload, r.payload_length, oneByte, beBytes]⟩
  | station state silence warning groups =>
    exact ⟨nofun, fun _ => by simp [AnswerContent.payload, GroupReport.payload, oneByte, beBytes, Four.toList]⟩
  | lockout r => exact ⟨nofun, fun _ => by simp [AnswerContent.payload, lockoutPayload_length, oneByte, beBytes]⟩
  | health t warning =>
    exact ⟨nofun, fun _ => by
      simp [AnswerContent.payload, HealthTable.payload, Attr.payload_length, oneByte, beBytes, Four.toList]⟩

theorem Answer.payload_length (a : Answer) : a.payload.length = a.content.payload.length + 3 := by
  simp [Answer.payload, oneByte, beBytes]

theorem records_payload_length (rs : List DoseRecord) : (rs.flatMap DoseRecord.payload).length = 27 * rs.length := by
  simp [List.length_flatMap, DoseRecord.payload_length, Nat.mul_comm]

theorem Body.kindCode_lt (b : Body) : b.kindCode < 256 := by
  cases b <;> exact Nat.le_of_ble_eq_true rfl

/-- The payload of a frame that the part may queue has a length of its kind (12.1.1). -/
theorem Body.payload_allowed {b : Body} (hfits : b.Fits) (overflow : Bool) :
    (b.payload overflow).length ≤ 88 ∧ lengthAllowed b.kindCode (b.payload overflow).length = true := by
  obtain ⟨hrecords, hpeers⟩ := hfits
  cases b with
  | alarm a =>
    show (a.payload overflow).length ≤ 88 ∧ lengthAllowed 3 (a.payload overflow).length = true
    rw [a.payload_length]
    decide
  | answer a =>
    show a.payload.length ≤ 88 ∧ lengthAllowed 4 a.payload.length = true
    rw [a.payload_length]
    obtain ⟨hp, hothers⟩ := a.content.payload_length
    by_cases hpeer : ∃ count entries, a.content = .peers count entries
    · obtain ⟨count, entries, hc⟩ := hpeer
      have hfour := hpeers a count entries rfl hc
      rw [hp count entries hc]
      generalize entries.length = n at hfour
      interval_cases n <;> decide
    · have hmem := hothers fun count entries hc => hpeer ⟨count, entries, hc⟩
      generalize a.content.payload.length = n at hmem
      revert n
      decide
  | records rs =>
    show (rs.flatMap DoseRecord.payload).length ≤ 88 ∧ lengthAllowed 5 (rs.flatMap DoseRecord.payload).length = true
    rw [records_payload_length]
    obtain ⟨hone, hthree⟩ := hrecords rs rfl
    generalize rs.length = n at hone hthree
    interval_cases n <;> decide

/-- Each figure of a frame that the part may queue stands at its place (12.1, 12.3, 12.4). -/
theorem Body.wire_laidOut {b : Body} (hfits : b.Fits) {source : Nat} (hsource : source < 256) (overflow : Bool) :
    b.LaidOut source overflow (b.wire source overflow) := by
  have hlen : (b.payload overflow).length % 256 = (b.payload overflow).length :=
    Nat.mod_eq_of_lt (by have := (Body.payload_allowed hfits overflow).1; omega)
  obtain ⟨hpriority, hsrc, hkind, hdst, hn⟩ := frame_opening b.priority source b.kindCode b.dst (b.payload overflow)
  have hstands : StandsAt (b.payload overflow) (b.wire source overflow) 5 := frame_standsAt _
  have hcrc := frame_crc b.priority source b.kindCode b.dst (b.payload overflow)
  rw [hlen] at hn
  rw [Nat.mod_eq_of_lt hsource] at hsrc
  have hopening : octetAt (b.wire source overflow) 4 = (b.payload overflow).length := hn
  unfold Body.LaidOut
  dsimp only
  rw [hopening]
  refine ⟨frame_length .., hcrc, hsrc, ?_⟩
  cases b with
  | alarm a => exact ⟨hpriority, hkind, hdst, a.payload_length overflow, Alarm.laidAt_of_stands hstands⟩
  | answer a =>
    have hcontent : StandsAt a.content.payload ((Body.answer a).wire source overflow) 8 := hstands.right
    have hshow : ((Body.answer a).payload overflow).length = a.content.payload.length + 3 := a.payload_length
    refine ⟨hpriority, hkind, hdst, ?_, octetAt_of_stands hstands.left.left.right, ?_, hshow ▸
      AnswerContent.laidAt_of_stands hcontent⟩
    · exact (hstands 0 (by simp [Body.payload, Answer.payload])).trans rfl
    · exact (hstands.left.right 0 Nat.zero_lt_one).trans rfl
  | records rs =>
    exact ⟨hpriority, hkind, hdst, records_payload_length rs, fun i r hr =>
      DoseRecord.laidAt_of_stands (StandsAt.block DoseRecord.payload_length hstands hr)⟩

/-! ### The frames that the part receives -/

section Received

variable {p s k own : Nat} {d : Byte} {payload : List Byte}

theorem byteAt_frame (tail : List Byte) :
    let frame := withCrc (frameHead p s k d payload) ++ tail
    byteAt frame 1 = BitVec.ofNat 8 s ∧ byteAt frame 2 = BitVec.ofNat 8 k ∧ byteAt frame 3 = d ∧
      byteAt frame 4 = BitVec.ofNat 8 payload.length := by
  simp [byteAt, withCrc, frameHead, oneByte, beBytes]

/-- A frame with a payload of a length that its kind allows is valid, whatever follows it (12.1, R162). -/
theorem validFrame_frame (hlen : payload.length ≤ 88) (hk : k < 256) (hallowed : lengthAllowed k payload.length = true)
    (tail : List Byte) : validFrame (withCrc (frameHead p s k d payload) ++ tail) = true := by
  obtain ⟨-, hkind, -, hn⟩ := byteAt_frame (p := p) (s := s) (k := k) (payload := payload) (d := d) tail
  have hhead : (frameHead p s k d payload).length = payload.length + 5 := by simp [frameHead, oneByte, beBytes]
  have hframe := frame_length p s k d payload
  have hcrc : withCrc ((withCrc (frameHead p s k d payload) ++ tail).take (payload.length + 5)) =
      (withCrc (frameHead p s k d payload) ++ tail).take (payload.length + 7) := by
    rw [List.take_append_of_le_length (by omega), List.take_append_of_le_length (by omega), ← hframe, List.take_length]
    unfold withCrc
    rw [← hhead, List.take_left]
  unfold byteAt at hkind hn
  unfold validFrame
  dsimp only
  rw [hkind, hn, BitVec.toNat_ofNat, BitVec.toNat_ofNat, Nat.mod_eq_of_lt (by omega : payload.length < 2 ^ 8),
    Nat.mod_eq_of_lt (by omega : k < 2 ^ 8), hcrc, hallowed]
  simp only [beq_self_eq_true, Bool.and_true, Bool.and_eq_true, decide_eq_true_eq, List.length_append]
  omega

/-- A frame from another station for this one is the command of its kind, source, destination and payload (R163). -/
theorem commandOfFrame_frame (hlen : payload.length ≤ 88) (hk : k < 256)
    (hallowed : lengthAllowed k payload.length = true) (hs : s < 256) (hown : s ≠ own)
    (hfor : k = 1 ∨ k = 2 ∨ d.toNat = own ∨ d = 255) (tail : List Byte) :
    commandOfFrame own (withCrc (frameHead p s k d payload) ++ tail) =
      commandOfPayload (BitVec.ofNat 8 k) (BitVec.ofNat 8 s) d payload := by
  obtain ⟨hsrc, hkind, hdst, hn⟩ := byteAt_frame (p := p) (s := s) (k := k) (payload := payload) (d := d) tail
  have hpayload : ((withCrc (frameHead p s k d payload) ++ tail).drop 5).take payload.length = payload := by
    simp [withCrc, frameHead, oneByte, beBytes]
  have hdispatched : (dispatchedAnywhere (BitVec.ofNat 8 k) || d.toNat == own || d.toNat == 255) = true := by
    rcases hfor with rfl | rfl | h | rfl
    · rfl
    · rfl
    · simp [h]
    · simp
  unfold commandOfFrame
  rw [validFrame_frame hlen hk hallowed, if_neg (by decide)]
  dsimp only
  rw [hsrc, hkind, hdst, hn, BitVec.toNat_ofNat, BitVec.toNat_ofNat, Nat.mod_eq_of_lt (by omega : payload.length < 2 ^ 8),
    Nat.mod_eq_of_lt (by omega : s < 2 ^ 8), if_neg hown, if_pos hdispatched, hpayload]

end Received

/-! ### Operands read from their bytes -/

theorem halves_append (hi lo : Nat) (w : Nat) :
    BitVec.ofNat w hi ++ BitVec.ofNat w lo = BitVec.ofNat (w + w) (2 ^ w * hi + lo % 2 ^ w) := by
  apply BitVec.eq_of_toNat_eq
  have hlo : lo % 2 ^ w < 2 ^ w := Nat.mod_lt _ (Nat.two_pow_pos w)
  rw [BitVec.toNat_append, BitVec.toNat_ofNat, BitVec.toNat_ofNat, BitVec.toNat_ofNat, ← Nat.shiftLeft_add_eq_or_of_lt hlo,
    Nat.shiftLeft_eq, Nat.pow_add, Nat.mod_mul, Nat.mul_add_mod, Nat.mod_mod, Nat.mul_add_div (Nat.two_pow_pos w),
    Nat.div_eq_of_lt hlo, Nat.add_zero, Nat.mul_comm, Nat.add_comm]

theorem byteAt_append (a b : List Byte) (i : Nat) : byteAt (a ++ b) (a.length + i) = byteAt b i := by
  simp [byteAt, List.getElem?_append]

theorem beBytes_two (n : Nat) : beBytes 2 n = [BitVec.ofNat 8 (n / 256), BitVec.ofNat 8 n] := by simp [beBytes]

theorem halfAt_beBytes (a b : List Byte) (n : Nat) : halfAt (a ++ (beBytes 2 n ++ b)) a.length = BitVec.ofNat 16 n := by
  unfold halfAt
  rw [byteAt_append a _ 1, ← Nat.add_zero a.length, byteAt_append a _ 0]
  rw [beBytes_two]
  show BitVec.ofNat 8 (n / 256) ++ BitVec.ofNat 8 n = BitVec.ofNat (8 + 8) n
  rw [halves_append, show 2 ^ 8 * (n / 256) + n % 2 ^ 8 = n from Nat.div_add_mod n 256]

theorem beBytes_four (n : Nat) : beBytes 4 n = beBytes 2 (n / 65536) ++ beBytes 2 n := by
  simp [beBytes, Nat.div_div_eq_div_mul]

theorem wordAt_beBytes (a b : List Byte) (n : Nat) : wordAt (a ++ (beBytes 4 n ++ b)) a.length = BitVec.ofNat 32 n := by
  have hhigh := halfAt_beBytes a (beBytes 2 n ++ b) (n / 65536)
  have hlow := halfAt_beBytes (a ++ beBytes 2 (n / 65536)) b n
  rw [List.length_append, List.append_assoc] at hlow
  unfold wordAt
  rw [beBytes_four, List.append_assoc, hhigh, show a.length + 2 = a.length + (beBytes 2 (n / 65536)).length from rfl, hlow,
    halves_append, show 2 ^ 16 * (n / 65536) + n % 2 ^ 16 = n from Nat.div_add_mod n 65536]

/-- The payload of a DEMAND gives its operands back (12.2). -/
theorem commandOfPayload_demand (src dst w st fl : Byte) (a b c d : Nat) :
    commandOfPayload 1 src dst ([w, st, fl] ++ (beBytes 4 a ++ (beBytes 4 b ++ (beBytes 4 c ++ beBytes 4 d)))) =
      .demandFrame src dst w st fl ⟨BitVec.ofNat 32 a, BitVec.ofNat 32 b, BitVec.ofNat 32 c, BitVec.ofNat 32 d⟩ := by
  have ha := wordAt_beBytes [w, st, fl] (beBytes 4 b ++ (beBytes 4 c ++ beBytes 4 d)) a
  have hb := wordAt_beBytes ([w, st, fl] ++ beBytes 4 a) (beBytes 4 c ++ beBytes 4 d) b
  have hc := wordAt_beBytes ([w, st, fl] ++ beBytes 4 a ++ beBytes 4 b) (beBytes 4 d) c
  have hd := wordAt_beBytes ([w, st, fl] ++ beBytes 4 a ++ beBytes 4 b ++ beBytes 4 c) [] d
  simp only [List.append_assoc, List.append_nil] at hb hc hd
  rw [← ha, ← hb, ← hc, ← hd]
  rfl

/-- What another station sends as a command has a payload that its kind allows, and is read as that command (12.2, R163). -/
theorem sentFrame_read {c : Instr} {kind : Nat} {src dst : Byte} {payload : List Byte}
    (h : sentFrame c = some (kind, src, dst, payload)) :
    payload.length ≤ 88 ∧ kind < 256 ∧ lengthAllowed kind payload.length = true ∧
      commandOfPayload (BitVec.ofNat 8 kind) src dst payload = c := by
  cases c <;> cases h
  case demandFrame w st fl d =>
    refine ⟨Nat.le_of_ble_eq_true rfl, Nat.le_of_ble_eq_true rfl, rfl, ?_⟩
    have hread := commandOfPayload_demand src dst w st fl d.c0.toNat d.c1.toNat d.c2.toNat d.c3.toNat
    simp only [BitVec.ofNat_toNat, BitVec.setWidth_eq] at hread
    exact hread
  case supplyFrame g c =>
    refine ⟨Nat.le_of_ble_eq_true rfl, Nat.le_of_ble_eq_true rfl, rfl, ?_⟩
    have hc := wordAt_beBytes [g] [] c.toNat
    rw [BitVec.ofNat_toNat, BitVec.setWidth_eq] at hc
    exact congrArg (Instr.supplyFrame src dst g) hc
  case target tag ch fl v =>
    refine ⟨Nat.le_of_ble_eq_true rfl, Nat.le_of_ble_eq_true rfl, rfl, ?_⟩
    have hv := halfAt_beBytes [tag, ch, fl] [] v.toNat
    rw [BitVec.ofNat_toNat, BitVec.setWidth_eq] at hv
    exact congrArg (Instr.target src dst tag ch fl) hv
  case ceiling tag ch v =>
    refine ⟨Nat.le_of_ble_eq_true rfl, Nat.le_of_ble_eq_true rfl, rfl, ?_⟩
    have hv := halfAt_beBytes [tag, ch] [] v.toNat
    rw [BitVec.ofNat_toNat, BitVec.setWidth_eq] at hv
    exact congrArg (Instr.ceiling src dst tag ch) hv
  all_goals exact ⟨Nat.le_of_ble_eq_true rfl, Nat.le_of_ble_eq_true rfl, rfl, rfl⟩

/-- Settles O50: what is built is valid, is read back operand by operand, and is laid out as Chapter 12 says. -/
theorem framesGoRound : Obligations.FramesGoRound := by
  refine ⟨fun own priority c kind src dst payload bytes hsent hbytes hown hfor tail => ?_,
    fun own source d overflow hsource hown _ _ _ _ _ => ⟨(frame_opening 2 source 1 255 _).1, ?_⟩,
    fun b source overflow hsource hfits => ⟨Body.wire_laidOut hfits hsource overflow, fun tail => ?_⟩,
    rfl, rfl, rfl, rfl, rfl, rfl, rfl⟩
  · obtain ⟨hlen, hkind, hallowed, hread⟩ := sentFrame_read hsent
    rw [sentBytes, hsent] at hbytes
    cases hbytes
    refine ⟨validFrame_frame hlen hkind hallowed tail, ?_⟩
    rw [commandOfFrame_frame hlen hkind hallowed src.isLt hown hfor, BitVec.ofNat_toNat, BitVec.setWidth_eq, hread]
  · have hpayload : d.payload overflow = [BitVec.ofNat 8 d.weight, BitVec.ofNat 8 d.state.code,
        BitVec.ofNat 8 ((if d.healthWarning then 1 else 0) + if overflow then 2 else 0)] ++ (beBytes 4 d.demand.c0 ++
        (beBytes 4 d.demand.c1 ++ (beBytes 4 d.demand.c2 ++ beBytes 4 d.demand.c3))) := by
      have hflags : demandFlags d.healthWarning overflow =
        (if d.healthWarning then 1 else 0) + if overflow then 2 else 0 := rfl
      rw [Demand.payload, hflags]
      simp [oneByte, beBytes, Four.toList]
    have hwire := commandOfFrame_frame (p := 2) (s := source) (k := 1) (own := own) (d := 255) (payload := d.payload overflow)
      (by rw [hpayload]; exact Nat.le_of_ble_eq_true rfl) (by decide) (by rw [hpayload]; rfl) hsource hown (.inl rfl) []
    rw [List.append_nil] at hwire
    refine hwire.trans ?_
    rw [hpayload]
    exact commandOfPayload_demand ..
  · obtain ⟨hlen, hallowed⟩ := Body.payload_allowed hfits overflow
    exact validFrame_frame hlen b.kindCode_lt hallowed tail

end Sys2Proof.Machine
end
